-- ==== Sys2Proof/Word.lean ====
section
/-! DEFINITION. The two word types of the core: the byte and the 16-bit address
(00_scope.md R5, R6). -/

namespace Sys2Proof

/-- A byte: the width of every data register and of every Bus access. -/
abbrev Byte := BitVec 8

/-- A 16-bit address; sums of addresses wrap modulo 65536. -/
abbrev Addr := BitVec 16

end Sys2Proof
end

