-- ==== Sys2Proof/Config.lean ====
section
/-! DEFINITION. The implementation parameters of the block (00_scope.md R5) and the
platform's one convention, what an unlisted memory cell answers. -/

namespace Sys2Proof

/-- `StackPage` (00_scope.md R5, R13; spec decision D5). -/
def Config.stackPage : Byte := 0x01

/-- The NMI vector (20_memory.md R42; spec decision D6). -/
def Config.vecNMI : Addr := 0xFFFA

/-- The RESET vector (20_memory.md R42; spec decision D6). -/
def Config.vecRESET : Addr := 0xFFFC

/-- The vector IRQ and BRK share (20_memory.md R42; spec decision D6). -/
def Config.vecIRQ : Addr := 0xFFFE

/-- `ResetCycles`, the cycles power-on charges (70_reset_and_hazards.md R230; D10). -/
def Config.resetCycles : Nat := 7

/-- The cycles an interrupt entry charges (60_exceptions.md R208; D9). -/
def Config.entryCycles : Nat := 7

/-- `ResetPC`, an open parameter of the spec: `none` means that `PC` is loaded from the
RESET vector (00_scope.md R5, 70_reset_and_hazards.md R230). `powerOn` takes it as an argument;
this is the value `State.reset` is built with. DESIGN CHOICE (log entry 3). -/
def Config.resetPC : Option Addr := none

/-- What a memory cell that nothing has written answers. DESIGN CHOICE (log entry 2): the spec
leaves it to the Bus (70_reset_and_hazards.md R231); 0x00 is the convention of its test
vectors. -/
def Config.unlistedByte : Byte := 0x00

end Sys2Proof
end

