-- ==== Sys2Proof/Syntax.lean ====
section
/-! DEFINITION. The instruction set as syntax: addressing modes, mnemonics, operand forms, one
constructor of `Instr` per row of opcode_table.json, and the shape of a registry entry
(30_encoding.md R50 to R57). -/

namespace Sys2Proof

/-- The sixteen addressing modes, a "closed variant set" (30_encoding.md R53). -/
inductive Mode
  | implicit | accumulator | immediate | zeroPage | zeroPageX | zeroPageY | relative
  | absolute | absoluteX | absoluteY | indirect | indexedIndirect | indirectIndexed
  | absoluteXWrite | absoluteYWrite | indirectIndexedWrite
  deriving DecidableEq, Repr

/-- The instruction length is a function of the mode alone (30_encoding.md R51, R53). -/
def Mode.len : Mode → Nat
  | .implicit | .accumulator => 1
  | .immediate | .zeroPage | .zeroPageX | .zeroPageY | .relative => 2
  | .indexedIndirect | .indirectIndexed | .indirectIndexedWrite => 2
  | .absolute | .absoluteX | .absoluteY | .absoluteXWrite | .absoluteYWrite | .indirect => 3

/-- The 66 registry mnemonics (30_encoding.md R56, R57). A leading `u` stands for the
undocumented marker `*`. -/
inductive Op
  | brk   -- BRK
  | ora   -- ORA
  | uSlo  -- *SLO
  | uNop  -- *NOP
  | asl   -- ASL
  | php   -- PHP
  | bpl   -- BPL
  | clc   -- CLC
  | jsr   -- JSR
  | and   -- AND
  | uRla  -- *RLA
  | bit   -- BIT
  | rol   -- ROL
  | plp   -- PLP
  | bmi   -- BMI
  | sec   -- SEC
  | rti   -- RTI
  | eor   -- EOR
  | uSre  -- *SRE
  | lsr   -- LSR
  | pha   -- PHA
  | jmp   -- JMP
  | bvc   -- BVC
  | cli   -- CLI
  | rts   -- RTS
  | adc   -- ADC
  | uRra  -- *RRA
  | ror   -- ROR
  | pla   -- PLA
  | bvs   -- BVS
  | sei   -- SEI
  | sta   -- STA
  | uSax  -- *SAX
  | sty   -- STY
  | stx   -- STX
  | dey   -- DEY
  | txa   -- TXA
  | bcc   -- BCC
  | tya   -- TYA
  | txs   -- TXS
  | ldy   -- LDY
  | lda   -- LDA
  | ldx   -- LDX
  | uLax  -- *LAX
  | tay   -- TAY
  | tax   -- TAX
  | bcs   -- BCS
  | clv   -- CLV
  | tsx   -- TSX
  | cpy   -- CPY
  | cmp   -- CMP
  | uDcp  -- *DCP
  | dec   -- DEC
  | iny   -- INY
  | dex   -- DEX
  | bne   -- BNE
  | cld   -- CLD
  | cpx   -- CPX
  | sbc   -- SBC
  | uIsb  -- *ISB
  | inc   -- INC
  | inx   -- INX
  | nop   -- NOP
  | uSbc  -- *SBC
  | beq   -- BEQ
  | sed   -- SED
  deriving DecidableEq, Repr

/-- The registry's spelling of a mnemonic, with the marker `*` on undocumented ones
(30_encoding.md R57, spec decision D2). -/
def Op.mnemonic : Op → String
  | .brk => "BRK"
  | .ora => "ORA"
  | .uSlo => "*SLO"
  | .uNop => "*NOP"
  | .asl => "ASL"
  | .php => "PHP"
  | .bpl => "BPL"
  | .clc => "CLC"
  | .jsr => "JSR"
  | .and => "AND"
  | .uRla => "*RLA"
  | .bit => "BIT"
  | .rol => "ROL"
  | .plp => "PLP"
  | .bmi => "BMI"
  | .sec => "SEC"
  | .rti => "RTI"
  | .eor => "EOR"
  | .uSre => "*SRE"
  | .lsr => "LSR"
  | .pha => "PHA"
  | .jmp => "JMP"
  | .bvc => "BVC"
  | .cli => "CLI"
  | .rts => "RTS"
  | .adc => "ADC"
  | .uRra => "*RRA"
  | .ror => "ROR"
  | .pla => "PLA"
  | .bvs => "BVS"
  | .sei => "SEI"
  | .sta => "STA"
  | .uSax => "*SAX"
  | .sty => "STY"
  | .stx => "STX"
  | .dey => "DEY"
  | .txa => "TXA"
  | .bcc => "BCC"
  | .tya => "TYA"
  | .txs => "TXS"
  | .ldy => "LDY"
  | .lda => "LDA"
  | .ldx => "LDX"
  | .uLax => "*LAX"
  | .tay => "TAY"
  | .tax => "TAX"
  | .bcs => "BCS"
  | .clv => "CLV"
  | .tsx => "TSX"
  | .cpy => "CPY"
  | .cmp => "CMP"
  | .uDcp => "*DCP"
  | .dec => "DEC"
  | .iny => "INY"
  | .dex => "DEX"
  | .bne => "BNE"
  | .cld => "CLD"
  | .cpx => "CPX"
  | .sbc => "SBC"
  | .uIsb => "*ISB"
  | .inc => "INC"
  | .inx => "INX"
  | .nop => "NOP"
  | .uSbc => "*SBC"
  | .beq => "BEQ"
  | .sed => "SED"

/-- The twelve modes that compute a memory address, each with its operand field
(40_step_and_addressing.md R77 to R85). -/
inductive MemForm
  | zeroPage (z : Byte)
  | zeroPageX (z : Byte)
  | zeroPageY (z : Byte)
  | absolute (a : Addr)
  | absoluteX (a : Addr)
  | absoluteY (a : Addr)
  | absoluteXWrite (a : Addr)
  | absoluteYWrite (a : Addr)
  | indirect (p : Addr)
  | indexedIndirect (z : Byte)
  | indirectIndexed (z : Byte)
  | indirectIndexedWrite (z : Byte)
  deriving DecidableEq, Repr

/-- An operand form: an addressing mode with its operand field. -/
inductive AddrForm
  | implicit
  | accumulator
  | immediate (v : Byte)
  | relative (d : Byte)
  | mem (m : MemForm)
  deriving DecidableEq, Repr

/-- Which cycles come on top of the base cost (30_encoding.md R64). -/
inductive Penalty
  | none | pageCross | branch
  deriving DecidableEq, Repr

/-- The instructions: one constructor per populated opcode byte, in byte order, named by its
mnemonic and mode (and, for `*NOP`, its byte). -/
inductive Instr
  /-- `00`: `BRK`, Implicit (R180). -/
  | brk
  /-- `01`: `ORA`, IndexedIndirect (R102). -/
  | oraIzx (z : Byte)
  /-- `03`: `*SLO`, IndexedIndirect (R192). -/
  | uSloIzx (z : Byte)
  /-- `04`: `*NOP`, ZeroPage (R186). -/
  | uNopZp04 (z : Byte)
  /-- `05`: `ORA`, ZeroPage (R102). -/
  | oraZp (z : Byte)
  /-- `06`: `ASL`, ZeroPage (R121). -/
  | aslZp (z : Byte)
  /-- `07`: `*SLO`, ZeroPage (R192). -/
  | uSloZp (z : Byte)
  /-- `08`: `PHP`, Implicit (R166). -/
  | php
  /-- `09`: `ORA`, Immediate (R102). -/
  | oraImm (v : Byte)
  /-- `0A`: `ASL`, Accumulator (R121). -/
  | aslAcc
  /-- `0C`: `*NOP`, Absolute (R186). -/
  | uNopAbs0C (a : Addr)
  /-- `0D`: `ORA`, Absolute (R102). -/
  | oraAbs (a : Addr)
  /-- `0E`: `ASL`, Absolute (R121). -/
  | aslAbs (a : Addr)
  /-- `0F`: `*SLO`, Absolute (R192). -/
  | uSloAbs (a : Addr)
  /-- `10`: `BPL`, Relative (R156). -/
  | bplRel (d : Byte)
  /-- `11`: `ORA`, IndirectIndexed (R102). -/
  | oraIzy (z : Byte)
  /-- `13`: `*SLO`, IndirectIndexedWrite (R192). -/
  | uSloIzyW (z : Byte)
  /-- `14`: `*NOP`, ZeroPageX (R186). -/
  | uNopZpx14 (z : Byte)
  /-- `15`: `ORA`, ZeroPageX (R102). -/
  | oraZpx (z : Byte)
  /-- `16`: `ASL`, ZeroPageX (R121). -/
  | aslZpx (z : Byte)
  /-- `17`: `*SLO`, ZeroPageX (R192). -/
  | uSloZpx (z : Byte)
  /-- `18`: `CLC`, Implicit (R169). -/
  | clc
  /-- `19`: `ORA`, AbsoluteY (R102). -/
  | oraAby (a : Addr)
  /-- `1A`: `*NOP`, Implicit (R186). -/
  | uNopImp1A
  /-- `1B`: `*SLO`, AbsoluteYWrite (R192). -/
  | uSloAbyW (a : Addr)
  /-- `1C`: `*NOP`, AbsoluteX (R186). -/
  | uNopAbx1C (a : Addr)
  /-- `1D`: `ORA`, AbsoluteX (R102). -/
  | oraAbx (a : Addr)
  /-- `1E`: `ASL`, AbsoluteXWrite (R121). -/
  | aslAbxW (a : Addr)
  /-- `1F`: `*SLO`, AbsoluteXWrite (R192). -/
  | uSloAbxW (a : Addr)
  /-- `20`: `JSR`, Absolute (R160). -/
  | jsrAbs (a : Addr)
  /-- `21`: `AND`, IndexedIndirect (R101). -/
  | andIzx (z : Byte)
  /-- `23`: `*RLA`, IndexedIndirect (R193). -/
  | uRlaIzx (z : Byte)
  /-- `24`: `BIT`, ZeroPage (R104). -/
  | bitZp (z : Byte)
  /-- `25`: `AND`, ZeroPage (R101). -/
  | andZp (z : Byte)
  /-- `26`: `ROL`, ZeroPage (R123). -/
  | rolZp (z : Byte)
  /-- `27`: `*RLA`, ZeroPage (R193). -/
  | uRlaZp (z : Byte)
  /-- `28`: `PLP`, Implicit (R168). -/
  | plp
  /-- `29`: `AND`, Immediate (R101). -/
  | andImm (v : Byte)
  /-- `2A`: `ROL`, Accumulator (R123). -/
  | rolAcc
  /-- `2C`: `BIT`, Absolute (R104). -/
  | bitAbs (a : Addr)
  /-- `2D`: `AND`, Absolute (R101). -/
  | andAbs (a : Addr)
  /-- `2E`: `ROL`, Absolute (R123). -/
  | rolAbs (a : Addr)
  /-- `2F`: `*RLA`, Absolute (R193). -/
  | uRlaAbs (a : Addr)
  /-- `30`: `BMI`, Relative (R155). -/
  | bmiRel (d : Byte)
  /-- `31`: `AND`, IndirectIndexed (R101). -/
  | andIzy (z : Byte)
  /-- `33`: `*RLA`, IndirectIndexedWrite (R193). -/
  | uRlaIzyW (z : Byte)
  /-- `34`: `*NOP`, ZeroPageX (R186). -/
  | uNopZpx34 (z : Byte)
  /-- `35`: `AND`, ZeroPageX (R101). -/
  | andZpx (z : Byte)
  /-- `36`: `ROL`, ZeroPageX (R123). -/
  | rolZpx (z : Byte)
  /-- `37`: `*RLA`, ZeroPageX (R193). -/
  | uRlaZpx (z : Byte)
  /-- `38`: `SEC`, Implicit (R170). -/
  | sec
  /-- `39`: `AND`, AbsoluteY (R101). -/
  | andAby (a : Addr)
  /-- `3A`: `*NOP`, Implicit (R186). -/
  | uNopImp3A
  /-- `3B`: `*RLA`, AbsoluteYWrite (R193). -/
  | uRlaAbyW (a : Addr)
  /-- `3C`: `*NOP`, AbsoluteX (R186). -/
  | uNopAbx3C (a : Addr)
  /-- `3D`: `AND`, AbsoluteX (R101). -/
  | andAbx (a : Addr)
  /-- `3E`: `ROL`, AbsoluteXWrite (R123). -/
  | rolAbxW (a : Addr)
  /-- `3F`: `*RLA`, AbsoluteXWrite (R193). -/
  | uRlaAbxW (a : Addr)
  /-- `40`: `RTI`, Implicit (R181). -/
  | rti
  /-- `41`: `EOR`, IndexedIndirect (R103). -/
  | eorIzx (z : Byte)
  /-- `43`: `*SRE`, IndexedIndirect (R194). -/
  | uSreIzx (z : Byte)
  /-- `44`: `*NOP`, ZeroPage (R186). -/
  | uNopZp44 (z : Byte)
  /-- `45`: `EOR`, ZeroPage (R103). -/
  | eorZp (z : Byte)
  /-- `46`: `LSR`, ZeroPage (R122). -/
  | lsrZp (z : Byte)
  /-- `47`: `*SRE`, ZeroPage (R194). -/
  | uSreZp (z : Byte)
  /-- `48`: `PHA`, Implicit (R165). -/
  | pha
  /-- `49`: `EOR`, Immediate (R103). -/
  | eorImm (v : Byte)
  /-- `4A`: `LSR`, Accumulator (R122). -/
  | lsrAcc
  /-- `4C`: `JMP`, Absolute (R159). -/
  | jmpAbs (a : Addr)
  /-- `4D`: `EOR`, Absolute (R103). -/
  | eorAbs (a : Addr)
  /-- `4E`: `LSR`, Absolute (R122). -/
  | lsrAbs (a : Addr)
  /-- `4F`: `*SRE`, Absolute (R194). -/
  | uSreAbs (a : Addr)
  /-- `50`: `BVC`, Relative (R157). -/
  | bvcRel (d : Byte)
  /-- `51`: `EOR`, IndirectIndexed (R103). -/
  | eorIzy (z : Byte)
  /-- `53`: `*SRE`, IndirectIndexedWrite (R194). -/
  | uSreIzyW (z : Byte)
  /-- `54`: `*NOP`, ZeroPageX (R186). -/
  | uNopZpx54 (z : Byte)
  /-- `55`: `EOR`, ZeroPageX (R103). -/
  | eorZpx (z : Byte)
  /-- `56`: `LSR`, ZeroPageX (R122). -/
  | lsrZpx (z : Byte)
  /-- `57`: `*SRE`, ZeroPageX (R194). -/
  | uSreZpx (z : Byte)
  /-- `58`: `CLI`, Implicit (R171). -/
  | cli
  /-- `59`: `EOR`, AbsoluteY (R103). -/
  | eorAby (a : Addr)
  /-- `5A`: `*NOP`, Implicit (R186). -/
  | uNopImp5A
  /-- `5B`: `*SRE`, AbsoluteYWrite (R194). -/
  | uSreAbyW (a : Addr)
  /-- `5C`: `*NOP`, AbsoluteX (R186). -/
  | uNopAbx5C (a : Addr)
  /-- `5D`: `EOR`, AbsoluteX (R103). -/
  | eorAbx (a : Addr)
  /-- `5E`: `LSR`, AbsoluteXWrite (R122). -/
  | lsrAbxW (a : Addr)
  /-- `5F`: `*SRE`, AbsoluteXWrite (R194). -/
  | uSreAbxW (a : Addr)
  /-- `60`: `RTS`, Implicit (R161). -/
  | rts
  /-- `61`: `ADC`, IndexedIndirect (R111). -/
  | adcIzx (z : Byte)
  /-- `63`: `*RRA`, IndexedIndirect (R195). -/
  | uRraIzx (z : Byte)
  /-- `64`: `*NOP`, ZeroPage (R186). -/
  | uNopZp64 (z : Byte)
  /-- `65`: `ADC`, ZeroPage (R111). -/
  | adcZp (z : Byte)
  /-- `66`: `ROR`, ZeroPage (R124). -/
  | rorZp (z : Byte)
  /-- `67`: `*RRA`, ZeroPage (R195). -/
  | uRraZp (z : Byte)
  /-- `68`: `PLA`, Implicit (R167). -/
  | pla
  /-- `69`: `ADC`, Immediate (R111). -/
  | adcImm (v : Byte)
  /-- `6A`: `ROR`, Accumulator (R124). -/
  | rorAcc
  /-- `6C`: `JMP`, Indirect (R159). -/
  | jmpInd (p : Addr)
  /-- `6D`: `ADC`, Absolute (R111). -/
  | adcAbs (a : Addr)
  /-- `6E`: `ROR`, Absolute (R124). -/
  | rorAbs (a : Addr)
  /-- `6F`: `*RRA`, Absolute (R195). -/
  | uRraAbs (a : Addr)
  /-- `70`: `BVS`, Relative (R158). -/
  | bvsRel (d : Byte)
  /-- `71`: `ADC`, IndirectIndexed (R111). -/
  | adcIzy (z : Byte)
  /-- `73`: `*RRA`, IndirectIndexedWrite (R195). -/
  | uRraIzyW (z : Byte)
  /-- `74`: `*NOP`, ZeroPageX (R186). -/
  | uNopZpx74 (z : Byte)
  /-- `75`: `ADC`, ZeroPageX (R111). -/
  | adcZpx (z : Byte)
  /-- `76`: `ROR`, ZeroPageX (R124). -/
  | rorZpx (z : Byte)
  /-- `77`: `*RRA`, ZeroPageX (R195). -/
  | uRraZpx (z : Byte)
  /-- `78`: `SEI`, Implicit (R172). -/
  | sei
  /-- `79`: `ADC`, AbsoluteY (R111). -/
  | adcAby (a : Addr)
  /-- `7A`: `*NOP`, Implicit (R186). -/
  | uNopImp7A
  /-- `7B`: `*RRA`, AbsoluteYWrite (R195). -/
  | uRraAbyW (a : Addr)
  /-- `7C`: `*NOP`, AbsoluteX (R186). -/
  | uNopAbx7C (a : Addr)
  /-- `7D`: `ADC`, AbsoluteX (R111). -/
  | adcAbx (a : Addr)
  /-- `7E`: `ROR`, AbsoluteXWrite (R124). -/
  | rorAbxW (a : Addr)
  /-- `7F`: `*RRA`, AbsoluteXWrite (R195). -/
  | uRraAbxW (a : Addr)
  /-- `80`: `*NOP`, Immediate (R186). -/
  | uNopImm80 (v : Byte)
  /-- `81`: `STA`, IndexedIndirect (R133). -/
  | staIzx (z : Byte)
  /-- `82`: `*NOP`, Immediate (R186). -/
  | uNopImm82 (v : Byte)
  /-- `83`: `*SAX`, IndexedIndirect (R188). -/
  | uSaxIzx (z : Byte)
  /-- `84`: `STY`, ZeroPage (R135). -/
  | styZp (z : Byte)
  /-- `85`: `STA`, ZeroPage (R133). -/
  | staZp (z : Byte)
  /-- `86`: `STX`, ZeroPage (R134). -/
  | stxZp (z : Byte)
  /-- `87`: `*SAX`, ZeroPage (R188). -/
  | uSaxZp (z : Byte)
  /-- `88`: `DEY`, Implicit (R118). -/
  | dey
  /-- `89`: `*NOP`, Immediate (R186). -/
  | uNopImm89 (v : Byte)
  /-- `8A`: `TXA`, Implicit (R138). -/
  | txa
  /-- `8C`: `STY`, Absolute (R135). -/
  | styAbs (a : Addr)
  /-- `8D`: `STA`, Absolute (R133). -/
  | staAbs (a : Addr)
  /-- `8E`: `STX`, Absolute (R134). -/
  | stxAbs (a : Addr)
  /-- `8F`: `*SAX`, Absolute (R188). -/
  | uSaxAbs (a : Addr)
  /-- `90`: `BCC`, Relative (R151). -/
  | bccRel (d : Byte)
  /-- `91`: `STA`, IndirectIndexedWrite (R133). -/
  | staIzyW (z : Byte)
  /-- `94`: `STY`, ZeroPageX (R135). -/
  | styZpx (z : Byte)
  /-- `95`: `STA`, ZeroPageX (R133). -/
  | staZpx (z : Byte)
  /-- `96`: `STX`, ZeroPageY (R134). -/
  | stxZpy (z : Byte)
  /-- `97`: `*SAX`, ZeroPageY (R188). -/
  | uSaxZpy (z : Byte)
  /-- `98`: `TYA`, Implicit (R139). -/
  | tya
  /-- `99`: `STA`, AbsoluteYWrite (R133). -/
  | staAbyW (a : Addr)
  /-- `9A`: `TXS`, Implicit (R141). -/
  | txs
  /-- `9D`: `STA`, AbsoluteXWrite (R133). -/
  | staAbxW (a : Addr)
  /-- `A0`: `LDY`, Immediate (R132). -/
  | ldyImm (v : Byte)
  /-- `A1`: `LDA`, IndexedIndirect (R130). -/
  | ldaIzx (z : Byte)
  /-- `A2`: `LDX`, Immediate (R131). -/
  | ldxImm (v : Byte)
  /-- `A3`: `*LAX`, IndexedIndirect (R187). -/
  | uLaxIzx (z : Byte)
  /-- `A4`: `LDY`, ZeroPage (R132). -/
  | ldyZp (z : Byte)
  /-- `A5`: `LDA`, ZeroPage (R130). -/
  | ldaZp (z : Byte)
  /-- `A6`: `LDX`, ZeroPage (R131). -/
  | ldxZp (z : Byte)
  /-- `A7`: `*LAX`, ZeroPage (R187). -/
  | uLaxZp (z : Byte)
  /-- `A8`: `TAY`, Implicit (R137). -/
  | tay
  /-- `A9`: `LDA`, Immediate (R130). -/
  | ldaImm (v : Byte)
  /-- `AA`: `TAX`, Implicit (R136). -/
  | tax
  /-- `AC`: `LDY`, Absolute (R132). -/
  | ldyAbs (a : Addr)
  /-- `AD`: `LDA`, Absolute (R130). -/
  | ldaAbs (a : Addr)
  /-- `AE`: `LDX`, Absolute (R131). -/
  | ldxAbs (a : Addr)
  /-- `AF`: `*LAX`, Absolute (R187). -/
  | uLaxAbs (a : Addr)
  /-- `B0`: `BCS`, Relative (R152). -/
  | bcsRel (d : Byte)
  /-- `B1`: `LDA`, IndirectIndexed (R130). -/
  | ldaIzy (z : Byte)
  /-- `B3`: `*LAX`, IndirectIndexed (R187). -/
  | uLaxIzy (z : Byte)
  /-- `B4`: `LDY`, ZeroPageX (R132). -/
  | ldyZpx (z : Byte)
  /-- `B5`: `LDA`, ZeroPageX (R130). -/
  | ldaZpx (z : Byte)
  /-- `B6`: `LDX`, ZeroPageY (R131). -/
  | ldxZpy (z : Byte)
  /-- `B7`: `*LAX`, ZeroPageY (R187). -/
  | uLaxZpy (z : Byte)
  /-- `B8`: `CLV`, Implicit (R175). -/
  | clv
  /-- `B9`: `LDA`, AbsoluteY (R130). -/
  | ldaAby (a : Addr)
  /-- `BA`: `TSX`, Implicit (R140). -/
  | tsx
  /-- `BC`: `LDY`, AbsoluteX (R132). -/
  | ldyAbx (a : Addr)
  /-- `BD`: `LDA`, AbsoluteX (R130). -/
  | ldaAbx (a : Addr)
  /-- `BE`: `LDX`, AbsoluteY (R131). -/
  | ldxAby (a : Addr)
  /-- `BF`: `*LAX`, AbsoluteY (R187). -/
  | uLaxAby (a : Addr)
  /-- `C0`: `CPY`, Immediate (R148). -/
  | cpyImm (v : Byte)
  /-- `C1`: `CMP`, IndexedIndirect (R146). -/
  | cmpIzx (z : Byte)
  /-- `C2`: `*NOP`, Immediate (R186). -/
  | uNopImmC2 (v : Byte)
  /-- `C3`: `*DCP`, IndexedIndirect (R190). -/
  | uDcpIzx (z : Byte)
  /-- `C4`: `CPY`, ZeroPage (R148). -/
  | cpyZp (z : Byte)
  /-- `C5`: `CMP`, ZeroPage (R146). -/
  | cmpZp (z : Byte)
  /-- `C6`: `DEC`, ZeroPage (R114). -/
  | decZp (z : Byte)
  /-- `C7`: `*DCP`, ZeroPage (R190). -/
  | uDcpZp (z : Byte)
  /-- `C8`: `INY`, Implicit (R116). -/
  | iny
  /-- `C9`: `CMP`, Immediate (R146). -/
  | cmpImm (v : Byte)
  /-- `CA`: `DEX`, Implicit (R117). -/
  | dex
  /-- `CC`: `CPY`, Absolute (R148). -/
  | cpyAbs (a : Addr)
  /-- `CD`: `CMP`, Absolute (R146). -/
  | cmpAbs (a : Addr)
  /-- `CE`: `DEC`, Absolute (R114). -/
  | decAbs (a : Addr)
  /-- `CF`: `*DCP`, Absolute (R190). -/
  | uDcpAbs (a : Addr)
  /-- `D0`: `BNE`, Relative (R154). -/
  | bneRel (d : Byte)
  /-- `D1`: `CMP`, IndirectIndexed (R146). -/
  | cmpIzy (z : Byte)
  /-- `D3`: `*DCP`, IndirectIndexedWrite (R190). -/
  | uDcpIzyW (z : Byte)
  /-- `D4`: `*NOP`, ZeroPageX (R186). -/
  | uNopZpxD4 (z : Byte)
  /-- `D5`: `CMP`, ZeroPageX (R146). -/
  | cmpZpx (z : Byte)
  /-- `D6`: `DEC`, ZeroPageX (R114). -/
  | decZpx (z : Byte)
  /-- `D7`: `*DCP`, ZeroPageX (R190). -/
  | uDcpZpx (z : Byte)
  /-- `D8`: `CLD`, Implicit (R173). -/
  | cld
  /-- `D9`: `CMP`, AbsoluteY (R146). -/
  | cmpAby (a : Addr)
  /-- `DA`: `*NOP`, Implicit (R186). -/
  | uNopImpDA
  /-- `DB`: `*DCP`, AbsoluteYWrite (R190). -/
  | uDcpAbyW (a : Addr)
  /-- `DC`: `*NOP`, AbsoluteX (R186). -/
  | uNopAbxDC (a : Addr)
  /-- `DD`: `CMP`, AbsoluteX (R146). -/
  | cmpAbx (a : Addr)
  /-- `DE`: `DEC`, AbsoluteXWrite (R114). -/
  | decAbxW (a : Addr)
  /-- `DF`: `*DCP`, AbsoluteXWrite (R190). -/
  | uDcpAbxW (a : Addr)
  /-- `E0`: `CPX`, Immediate (R147). -/
  | cpxImm (v : Byte)
  /-- `E1`: `SBC`, IndexedIndirect (R112). -/
  | sbcIzx (z : Byte)
  /-- `E2`: `*NOP`, Immediate (R186). -/
  | uNopImmE2 (v : Byte)
  /-- `E3`: `*ISB`, IndexedIndirect (R191). -/
  | uIsbIzx (z : Byte)
  /-- `E4`: `CPX`, ZeroPage (R147). -/
  | cpxZp (z : Byte)
  /-- `E5`: `SBC`, ZeroPage (R112). -/
  | sbcZp (z : Byte)
  /-- `E6`: `INC`, ZeroPage (R113). -/
  | incZp (z : Byte)
  /-- `E7`: `*ISB`, ZeroPage (R191). -/
  | uIsbZp (z : Byte)
  /-- `E8`: `INX`, Implicit (R115). -/
  | inx
  /-- `E9`: `SBC`, Immediate (R112). -/
  | sbcImm (v : Byte)
  /-- `EA`: `NOP`, Implicit (R182). -/
  | nop
  /-- `EB`: `*SBC`, Immediate (R189). -/
  | uSbcImm (v : Byte)
  /-- `EC`: `CPX`, Absolute (R147). -/
  | cpxAbs (a : Addr)
  /-- `ED`: `SBC`, Absolute (R112). -/
  | sbcAbs (a : Addr)
  /-- `EE`: `INC`, Absolute (R113). -/
  | incAbs (a : Addr)
  /-- `EF`: `*ISB`, Absolute (R191). -/
  | uIsbAbs (a : Addr)
  /-- `F0`: `BEQ`, Relative (R153). -/
  | beqRel (d : Byte)
  /-- `F1`: `SBC`, IndirectIndexed (R112). -/
  | sbcIzy (z : Byte)
  /-- `F3`: `*ISB`, IndirectIndexedWrite (R191). -/
  | uIsbIzyW (z : Byte)
  /-- `F4`: `*NOP`, ZeroPageX (R186). -/
  | uNopZpxF4 (z : Byte)
  /-- `F5`: `SBC`, ZeroPageX (R112). -/
  | sbcZpx (z : Byte)
  /-- `F6`: `INC`, ZeroPageX (R113). -/
  | incZpx (z : Byte)
  /-- `F7`: `*ISB`, ZeroPageX (R191). -/
  | uIsbZpx (z : Byte)
  /-- `F8`: `SED`, Implicit (R174). -/
  | sed
  /-- `F9`: `SBC`, AbsoluteY (R112). -/
  | sbcAby (a : Addr)
  /-- `FA`: `*NOP`, Implicit (R186). -/
  | uNopImpFA
  /-- `FB`: `*ISB`, AbsoluteYWrite (R191). -/
  | uIsbAbyW (a : Addr)
  /-- `FC`: `*NOP`, AbsoluteX (R186). -/
  | uNopAbxFC (a : Addr)
  /-- `FD`: `SBC`, AbsoluteX (R112). -/
  | sbcAbx (a : Addr)
  /-- `FE`: `INC`, AbsoluteXWrite (R113). -/
  | incAbxW (a : Addr)
  /-- `FF`: `*ISB`, AbsoluteXWrite (R191). -/
  | uIsbAbxW (a : Addr)
  deriving DecidableEq, Repr

/-- How the operand bytes that follow the opcode complete an instruction. -/
inductive Template
  | none (i : Instr)
  | byte (f : Byte → Instr)
  | word (f : Addr → Instr)

/-- How many bytes an instruction built from the template occupies. -/
def Template.len : Template → Nat
  | .none _ => 1
  | .byte _ => 2
  | .word _ => 3

/-- A registry entry: the "immutable record" of 30_encoding.md R50, with the penalty column of
R64 and the constructor it stands for. -/
structure OpcodeEntry where
  opcode  : Byte
  op      : Op
  mode    : Mode
  len     : Nat
  cycles  : Nat
  penalty : Penalty
  make    : Template

end Sys2Proof
end

