-- ==== Sys2Proof/WellFormed.lean ====
section
/-! DEFINITION. Well-formedness. Every field of `Instr` has exactly the width of its encoding
field, so no term of `Instr` is ill-formed; what can be ill-formed is a registry, and its
defects "must be caught at startup, never at runtime" (30_encoding.md R50, R51,
60_exceptions.md R203). -/

namespace Sys2Proof

/-- What can be wrong with a registry (60_exceptions.md R203). -/
inductive RegistryDefect
  /-- Two entries for one opcode byte (30_encoding.md R50). -/
  | duplicateByte (opcode : Byte)
  /-- The declared length is not that of the mode (30_encoding.md R51). -/
  | lengthMismatch (opcode : Byte)
  /-- The entry takes more or fewer operand bytes than its length says (30_encoding.md R53). -/
  | operandMismatch (opcode : Byte)
  deriving DecidableEq, Repr

/-- The defects of one entry by itself. -/
def entryDefects (e : OpcodeEntry) : List RegistryDefect :=
  (if e.len = e.mode.len then [] else [.lengthMismatch e.opcode]) ++
  (if e.make.len = e.len then [] else [.operandMismatch e.opcode])

/-- All defects of a registry. -/
def registryDefects : List OpcodeEntry → List RegistryDefect
  | [] => []
  | e :: rest =>
    (if rest.any (fun f => f.opcode == e.opcode) then [.duplicateByte e.opcode] else []) ++
    entryDefects e ++ registryDefects rest

/-- A registry the core may be built with: one without defects (60_exceptions.md R203). -/
def registryWellFormed (r : List OpcodeEntry) : Bool := (registryDefects r).isEmpty

/-- Every instruction is well-formed: each field has the width its encoding gives it. -/
def Instr.wellFormed (_ : Instr) : Bool := true

end Sys2Proof
end

