-- ==== Sys2Proof/Decode.lean ====
section
/-! DEFINITION. The Opcode Registry, the decoder and the encoder (30_encoding.md R50 to R60). -/

namespace Sys2Proof

/-- `{hi, lo}`: two bytes as a 16-bit value (00_scope.md R6). -/
def addrOfBytes (hi lo : Byte) : Addr := hi ++ lo

/-- Bits 7:0 of a 16-bit value. -/
def lowByte (a : Addr) : Byte := a.setWidth 8

/-- Bits 15:8 of a 16-bit value. -/
def highByte (a : Addr) : Byte := (a >>> 8).setWidth 8

/-- The entries of the opcode bytes `0x` (30_encoding.md R55 to R57, opcode_table.json). -/
def registryRow0 : List OpcodeEntry :=
  [ ⟨0x00, .brk, .implicit, 1, 7, .none, .none .brk⟩
  , ⟨0x01, .ora, .indexedIndirect, 2, 6, .none, .byte .oraIzx⟩
  , ⟨0x03, .uSlo, .indexedIndirect, 2, 8, .none, .byte .uSloIzx⟩
  , ⟨0x04, .uNop, .zeroPage, 2, 3, .none, .byte .uNopZp04⟩
  , ⟨0x05, .ora, .zeroPage, 2, 3, .none, .byte .oraZp⟩
  , ⟨0x06, .asl, .zeroPage, 2, 5, .none, .byte .aslZp⟩
  , ⟨0x07, .uSlo, .zeroPage, 2, 5, .none, .byte .uSloZp⟩
  , ⟨0x08, .php, .implicit, 1, 3, .none, .none .php⟩
  , ⟨0x09, .ora, .immediate, 2, 2, .none, .byte .oraImm⟩
  , ⟨0x0A, .asl, .accumulator, 1, 2, .none, .none .aslAcc⟩
  , ⟨0x0C, .uNop, .absolute, 3, 4, .none, .word .uNopAbs0C⟩
  , ⟨0x0D, .ora, .absolute, 3, 4, .none, .word .oraAbs⟩
  , ⟨0x0E, .asl, .absolute, 3, 6, .none, .word .aslAbs⟩
  , ⟨0x0F, .uSlo, .absolute, 3, 6, .none, .word .uSloAbs⟩ ]

/-- The entries of the opcode bytes `1x` (30_encoding.md R55 to R57, opcode_table.json). -/
def registryRow1 : List OpcodeEntry :=
  [ ⟨0x10, .bpl, .relative, 2, 2, .branch, .byte .bplRel⟩
  , ⟨0x11, .ora, .indirectIndexed, 2, 5, .pageCross, .byte .oraIzy⟩
  , ⟨0x13, .uSlo, .indirectIndexedWrite, 2, 8, .none, .byte .uSloIzyW⟩
  , ⟨0x14, .uNop, .zeroPageX, 2, 4, .none, .byte .uNopZpx14⟩
  , ⟨0x15, .ora, .zeroPageX, 2, 4, .none, .byte .oraZpx⟩
  , ⟨0x16, .asl, .zeroPageX, 2, 6, .none, .byte .aslZpx⟩
  , ⟨0x17, .uSlo, .zeroPageX, 2, 6, .none, .byte .uSloZpx⟩
  , ⟨0x18, .clc, .implicit, 1, 2, .none, .none .clc⟩
  , ⟨0x19, .ora, .absoluteY, 3, 4, .pageCross, .word .oraAby⟩
  , ⟨0x1A, .uNop, .implicit, 1, 2, .none, .none .uNopImp1A⟩
  , ⟨0x1B, .uSlo, .absoluteYWrite, 3, 7, .none, .word .uSloAbyW⟩
  , ⟨0x1C, .uNop, .absoluteX, 3, 4, .pageCross, .word .uNopAbx1C⟩
  , ⟨0x1D, .ora, .absoluteX, 3, 4, .pageCross, .word .oraAbx⟩
  , ⟨0x1E, .asl, .absoluteXWrite, 3, 7, .none, .word .aslAbxW⟩
  , ⟨0x1F, .uSlo, .absoluteXWrite, 3, 7, .none, .word .uSloAbxW⟩ ]

/-- The entries of the opcode bytes `2x` (30_encoding.md R55 to R57, opcode_table.json). -/
def registryRow2 : List OpcodeEntry :=
  [ ⟨0x20, .jsr, .absolute, 3, 6, .none, .word .jsrAbs⟩
  , ⟨0x21, .and, .indexedIndirect, 2, 6, .none, .byte .andIzx⟩
  , ⟨0x23, .uRla, .indexedIndirect, 2, 8, .none, .byte .uRlaIzx⟩
  , ⟨0x24, .bit, .zeroPage, 2, 3, .none, .byte .bitZp⟩
  , ⟨0x25, .and, .zeroPage, 2, 3, .none, .byte .andZp⟩
  , ⟨0x26, .rol, .zeroPage, 2, 5, .none, .byte .rolZp⟩
  , ⟨0x27, .uRla, .zeroPage, 2, 5, .none, .byte .uRlaZp⟩
  , ⟨0x28, .plp, .implicit, 1, 4, .none, .none .plp⟩
  , ⟨0x29, .and, .immediate, 2, 2, .none, .byte .andImm⟩
  , ⟨0x2A, .rol, .accumulator, 1, 2, .none, .none .rolAcc⟩
  , ⟨0x2C, .bit, .absolute, 3, 4, .none, .word .bitAbs⟩
  , ⟨0x2D, .and, .absolute, 3, 4, .none, .word .andAbs⟩
  , ⟨0x2E, .rol, .absolute, 3, 6, .none, .word .rolAbs⟩
  , ⟨0x2F, .uRla, .absolute, 3, 6, .none, .word .uRlaAbs⟩ ]

/-- The entries of the opcode bytes `3x` (30_encoding.md R55 to R57, opcode_table.json). -/
def registryRow3 : List OpcodeEntry :=
  [ ⟨0x30, .bmi, .relative, 2, 2, .branch, .byte .bmiRel⟩
  , ⟨0x31, .and, .indirectIndexed, 2, 5, .pageCross, .byte .andIzy⟩
  , ⟨0x33, .uRla, .indirectIndexedWrite, 2, 8, .none, .byte .uRlaIzyW⟩
  , ⟨0x34, .uNop, .zeroPageX, 2, 4, .none, .byte .uNopZpx34⟩
  , ⟨0x35, .and, .zeroPageX, 2, 4, .none, .byte .andZpx⟩
  , ⟨0x36, .rol, .zeroPageX, 2, 6, .none, .byte .rolZpx⟩
  , ⟨0x37, .uRla, .zeroPageX, 2, 6, .none, .byte .uRlaZpx⟩
  , ⟨0x38, .sec, .implicit, 1, 2, .none, .none .sec⟩
  , ⟨0x39, .and, .absoluteY, 3, 4, .pageCross, .word .andAby⟩
  , ⟨0x3A, .uNop, .implicit, 1, 2, .none, .none .uNopImp3A⟩
  , ⟨0x3B, .uRla, .absoluteYWrite, 3, 7, .none, .word .uRlaAbyW⟩
  , ⟨0x3C, .uNop, .absoluteX, 3, 4, .pageCross, .word .uNopAbx3C⟩
  , ⟨0x3D, .and, .absoluteX, 3, 4, .pageCross, .word .andAbx⟩
  , ⟨0x3E, .rol, .absoluteXWrite, 3, 7, .none, .word .rolAbxW⟩
  , ⟨0x3F, .uRla, .absoluteXWrite, 3, 7, .none, .word .uRlaAbxW⟩ ]

/-- The entries of the opcode bytes `4x` (30_encoding.md R55 to R57, opcode_table.json). -/
def registryRow4 : List OpcodeEntry :=
  [ ⟨0x40, .rti, .implicit, 1, 6, .none, .none .rti⟩
  , ⟨0x41, .eor, .indexedIndirect, 2, 6, .none, .byte .eorIzx⟩
  , ⟨0x43, .uSre, .indexedIndirect, 2, 8, .none, .byte .uSreIzx⟩
  , ⟨0x44, .uNop, .zeroPage, 2, 3, .none, .byte .uNopZp44⟩
  , ⟨0x45, .eor, .zeroPage, 2, 3, .none, .byte .eorZp⟩
  , ⟨0x46, .lsr, .zeroPage, 2, 5, .none, .byte .lsrZp⟩
  , ⟨0x47, .uSre, .zeroPage, 2, 5, .none, .byte .uSreZp⟩
  , ⟨0x48, .pha, .implicit, 1, 3, .none, .none .pha⟩
  , ⟨0x49, .eor, .immediate, 2, 2, .none, .byte .eorImm⟩
  , ⟨0x4A, .lsr, .accumulator, 1, 2, .none, .none .lsrAcc⟩
  , ⟨0x4C, .jmp, .absolute, 3, 3, .none, .word .jmpAbs⟩
  , ⟨0x4D, .eor, .absolute, 3, 4, .none, .word .eorAbs⟩
  , ⟨0x4E, .lsr, .absolute, 3, 6, .none, .word .lsrAbs⟩
  , ⟨0x4F, .uSre, .absolute, 3, 6, .none, .word .uSreAbs⟩ ]

/-- The entries of the opcode bytes `5x` (30_encoding.md R55 to R57, opcode_table.json). -/
def registryRow5 : List OpcodeEntry :=
  [ ⟨0x50, .bvc, .relative, 2, 2, .branch, .byte .bvcRel⟩
  , ⟨0x51, .eor, .indirectIndexed, 2, 5, .pageCross, .byte .eorIzy⟩
  , ⟨0x53, .uSre, .indirectIndexedWrite, 2, 8, .none, .byte .uSreIzyW⟩
  , ⟨0x54, .uNop, .zeroPageX, 2, 4, .none, .byte .uNopZpx54⟩
  , ⟨0x55, .eor, .zeroPageX, 2, 4, .none, .byte .eorZpx⟩
  , ⟨0x56, .lsr, .zeroPageX, 2, 6, .none, .byte .lsrZpx⟩
  , ⟨0x57, .uSre, .zeroPageX, 2, 6, .none, .byte .uSreZpx⟩
  , ⟨0x58, .cli, .implicit, 1, 2, .none, .none .cli⟩
  , ⟨0x59, .eor, .absoluteY, 3, 4, .pageCross, .word .eorAby⟩
  , ⟨0x5A, .uNop, .implicit, 1, 2, .none, .none .uNopImp5A⟩
  , ⟨0x5B, .uSre, .absoluteYWrite, 3, 7, .none, .word .uSreAbyW⟩
  , ⟨0x5C, .uNop, .absoluteX, 3, 4, .pageCross, .word .uNopAbx5C⟩
  , ⟨0x5D, .eor, .absoluteX, 3, 4, .pageCross, .word .eorAbx⟩
  , ⟨0x5E, .lsr, .absoluteXWrite, 3, 7, .none, .word .lsrAbxW⟩
  , ⟨0x5F, .uSre, .absoluteXWrite, 3, 7, .none, .word .uSreAbxW⟩ ]

/-- The entries of the opcode bytes `6x` (30_encoding.md R55 to R57, opcode_table.json). -/
def registryRow6 : List OpcodeEntry :=
  [ ⟨0x60, .rts, .implicit, 1, 6, .none, .none .rts⟩
  , ⟨0x61, .adc, .indexedIndirect, 2, 6, .none, .byte .adcIzx⟩
  , ⟨0x63, .uRra, .indexedIndirect, 2, 8, .none, .byte .uRraIzx⟩
  , ⟨0x64, .uNop, .zeroPage, 2, 3, .none, .byte .uNopZp64⟩
  , ⟨0x65, .adc, .zeroPage, 2, 3, .none, .byte .adcZp⟩
  , ⟨0x66, .ror, .zeroPage, 2, 5, .none, .byte .rorZp⟩
  , ⟨0x67, .uRra, .zeroPage, 2, 5, .none, .byte .uRraZp⟩
  , ⟨0x68, .pla, .implicit, 1, 4, .none, .none .pla⟩
  , ⟨0x69, .adc, .immediate, 2, 2, .none, .byte .adcImm⟩
  , ⟨0x6A, .ror, .accumulator, 1, 2, .none, .none .rorAcc⟩
  , ⟨0x6C, .jmp, .indirect, 3, 5, .none, .word .jmpInd⟩
  , ⟨0x6D, .adc, .absolute, 3, 4, .none, .word .adcAbs⟩
  , ⟨0x6E, .ror, .absolute, 3, 6, .none, .word .rorAbs⟩
  , ⟨0x6F, .uRra, .absolute, 3, 6, .none, .word .uRraAbs⟩ ]

/-- The entries of the opcode bytes `7x` (30_encoding.md R55 to R57, opcode_table.json). -/
def registryRow7 : List OpcodeEntry :=
  [ ⟨0x70, .bvs, .relative, 2, 2, .branch, .byte .bvsRel⟩
  , ⟨0x71, .adc, .indirectIndexed, 2, 5, .pageCross, .byte .adcIzy⟩
  , ⟨0x73, .uRra, .indirectIndexedWrite, 2, 8, .none, .byte .uRraIzyW⟩
  , ⟨0x74, .uNop, .zeroPageX, 2, 4, .none, .byte .uNopZpx74⟩
  , ⟨0x75, .adc, .zeroPageX, 2, 4, .none, .byte .adcZpx⟩
  , ⟨0x76, .ror, .zeroPageX, 2, 6, .none, .byte .rorZpx⟩
  , ⟨0x77, .uRra, .zeroPageX, 2, 6, .none, .byte .uRraZpx⟩
  , ⟨0x78, .sei, .implicit, 1, 2, .none, .none .sei⟩
  , ⟨0x79, .adc, .absoluteY, 3, 4, .pageCross, .word .adcAby⟩
  , ⟨0x7A, .uNop, .implicit, 1, 2, .none, .none .uNopImp7A⟩
  , ⟨0x7B, .uRra, .absoluteYWrite, 3, 7, .none, .word .uRraAbyW⟩
  , ⟨0x7C, .uNop, .absoluteX, 3, 4, .pageCross, .word .uNopAbx7C⟩
  , ⟨0x7D, .adc, .absoluteX, 3, 4, .pageCross, .word .adcAbx⟩
  , ⟨0x7E, .ror, .absoluteXWrite, 3, 7, .none, .word .rorAbxW⟩
  , ⟨0x7F, .uRra, .absoluteXWrite, 3, 7, .none, .word .uRraAbxW⟩ ]

/-- The entries of the opcode bytes `8x` (30_encoding.md R55 to R57, opcode_table.json). -/
def registryRow8 : List OpcodeEntry :=
  [ ⟨0x80, .uNop, .immediate, 2, 2, .none, .byte .uNopImm80⟩
  , ⟨0x81, .sta, .indexedIndirect, 2, 6, .none, .byte .staIzx⟩
  , ⟨0x82, .uNop, .immediate, 2, 2, .none, .byte .uNopImm82⟩
  , ⟨0x83, .uSax, .indexedIndirect, 2, 6, .none, .byte .uSaxIzx⟩
  , ⟨0x84, .sty, .zeroPage, 2, 3, .none, .byte .styZp⟩
  , ⟨0x85, .sta, .zeroPage, 2, 3, .none, .byte .staZp⟩
  , ⟨0x86, .stx, .zeroPage, 2, 3, .none, .byte .stxZp⟩
  , ⟨0x87, .uSax, .zeroPage, 2, 3, .none, .byte .uSaxZp⟩
  , ⟨0x88, .dey, .implicit, 1, 2, .none, .none .dey⟩
  , ⟨0x89, .uNop, .immediate, 2, 2, .none, .byte .uNopImm89⟩
  , ⟨0x8A, .txa, .implicit, 1, 2, .none, .none .txa⟩
  , ⟨0x8C, .sty, .absolute, 3, 4, .none, .word .styAbs⟩
  , ⟨0x8D, .sta, .absolute, 3, 4, .none, .word .staAbs⟩
  , ⟨0x8E, .stx, .absolute, 3, 4, .none, .word .stxAbs⟩
  , ⟨0x8F, .uSax, .absolute, 3, 4, .none, .word .uSaxAbs⟩ ]

/-- The entries of the opcode bytes `9x` (30_encoding.md R55 to R57, opcode_table.json). -/
def registryRow9 : List OpcodeEntry :=
  [ ⟨0x90, .bcc, .relative, 2, 2, .branch, .byte .bccRel⟩
  , ⟨0x91, .sta, .indirectIndexedWrite, 2, 6, .none, .byte .staIzyW⟩
  , ⟨0x94, .sty, .zeroPageX, 2, 4, .none, .byte .styZpx⟩
  , ⟨0x95, .sta, .zeroPageX, 2, 4, .none, .byte .staZpx⟩
  , ⟨0x96, .stx, .zeroPageY, 2, 4, .none, .byte .stxZpy⟩
  , ⟨0x97, .uSax, .zeroPageY, 2, 4, .none, .byte .uSaxZpy⟩
  , ⟨0x98, .tya, .implicit, 1, 2, .none, .none .tya⟩
  , ⟨0x99, .sta, .absoluteYWrite, 3, 5, .none, .word .staAbyW⟩
  , ⟨0x9A, .txs, .implicit, 1, 2, .none, .none .txs⟩
  , ⟨0x9D, .sta, .absoluteXWrite, 3, 5, .none, .word .staAbxW⟩ ]

/-- The entries of the opcode bytes `Ax` (30_encoding.md R55 to R57, opcode_table.json). -/
def registryRowA : List OpcodeEntry :=
  [ ⟨0xA0, .ldy, .immediate, 2, 2, .none, .byte .ldyImm⟩
  , ⟨0xA1, .lda, .indexedIndirect, 2, 6, .none, .byte .ldaIzx⟩
  , ⟨0xA2, .ldx, .immediate, 2, 2, .none, .byte .ldxImm⟩
  , ⟨0xA3, .uLax, .indexedIndirect, 2, 6, .none, .byte .uLaxIzx⟩
  , ⟨0xA4, .ldy, .zeroPage, 2, 3, .none, .byte .ldyZp⟩
  , ⟨0xA5, .lda, .zeroPage, 2, 3, .none, .byte .ldaZp⟩
  , ⟨0xA6, .ldx, .zeroPage, 2, 3, .none, .byte .ldxZp⟩
  , ⟨0xA7, .uLax, .zeroPage, 2, 3, .none, .byte .uLaxZp⟩
  , ⟨0xA8, .tay, .implicit, 1, 2, .none, .none .tay⟩
  , ⟨0xA9, .lda, .immediate, 2, 2, .none, .byte .ldaImm⟩
  , ⟨0xAA, .tax, .implicit, 1, 2, .none, .none .tax⟩
  , ⟨0xAC, .ldy, .absolute, 3, 4, .none, .word .ldyAbs⟩
  , ⟨0xAD, .lda, .absolute, 3, 4, .none, .word .ldaAbs⟩
  , ⟨0xAE, .ldx, .absolute, 3, 4, .none, .word .ldxAbs⟩
  , ⟨0xAF, .uLax, .absolute, 3, 4, .none, .word .uLaxAbs⟩ ]

/-- The entries of the opcode bytes `Bx` (30_encoding.md R55 to R57, opcode_table.json). -/
def registryRowB : List OpcodeEntry :=
  [ ⟨0xB0, .bcs, .relative, 2, 2, .branch, .byte .bcsRel⟩
  , ⟨0xB1, .lda, .indirectIndexed, 2, 5, .pageCross, .byte .ldaIzy⟩
  , ⟨0xB3, .uLax, .indirectIndexed, 2, 5, .pageCross, .byte .uLaxIzy⟩
  , ⟨0xB4, .ldy, .zeroPageX, 2, 4, .none, .byte .ldyZpx⟩
  , ⟨0xB5, .lda, .zeroPageX, 2, 4, .none, .byte .ldaZpx⟩
  , ⟨0xB6, .ldx, .zeroPageY, 2, 4, .none, .byte .ldxZpy⟩
  , ⟨0xB7, .uLax, .zeroPageY, 2, 4, .none, .byte .uLaxZpy⟩
  , ⟨0xB8, .clv, .implicit, 1, 2, .none, .none .clv⟩
  , ⟨0xB9, .lda, .absoluteY, 3, 4, .pageCross, .word .ldaAby⟩
  , ⟨0xBA, .tsx, .implicit, 1, 2, .none, .none .tsx⟩
  , ⟨0xBC, .ldy, .absoluteX, 3, 4, .pageCross, .word .ldyAbx⟩
  , ⟨0xBD, .lda, .absoluteX, 3, 4, .pageCross, .word .ldaAbx⟩
  , ⟨0xBE, .ldx, .absoluteY, 3, 4, .pageCross, .word .ldxAby⟩
  , ⟨0xBF, .uLax, .absoluteY, 3, 4, .pageCross, .word .uLaxAby⟩ ]

/-- The entries of the opcode bytes `Cx` (30_encoding.md R55 to R57, opcode_table.json). -/
def registryRowC : List OpcodeEntry :=
  [ ⟨0xC0, .cpy, .immediate, 2, 2, .none, .byte .cpyImm⟩
  , ⟨0xC1, .cmp, .indexedIndirect, 2, 6, .none, .byte .cmpIzx⟩
  , ⟨0xC2, .uNop, .immediate, 2, 2, .none, .byte .uNopImmC2⟩
  , ⟨0xC3, .uDcp, .indexedIndirect, 2, 8, .none, .byte .uDcpIzx⟩
  , ⟨0xC4, .cpy, .zeroPage, 2, 3, .none, .byte .cpyZp⟩
  , ⟨0xC5, .cmp, .zeroPage, 2, 3, .none, .byte .cmpZp⟩
  , ⟨0xC6, .dec, .zeroPage, 2, 5, .none, .byte .decZp⟩
  , ⟨0xC7, .uDcp, .zeroPage, 2, 5, .none, .byte .uDcpZp⟩
  , ⟨0xC8, .iny, .implicit, 1, 2, .none, .none .iny⟩
  , ⟨0xC9, .cmp, .immediate, 2, 2, .none, .byte .cmpImm⟩
  , ⟨0xCA, .dex, .implicit, 1, 2, .none, .none .dex⟩
  , ⟨0xCC, .cpy, .absolute, 3, 4, .none, .word .cpyAbs⟩
  , ⟨0xCD, .cmp, .absolute, 3, 4, .none, .word .cmpAbs⟩
  , ⟨0xCE, .dec, .absolute, 3, 6, .none, .word .decAbs⟩
  , ⟨0xCF, .uDcp, .absolute, 3, 6, .none, .word .uDcpAbs⟩ ]

/-- The entries of the opcode bytes `Dx` (30_encoding.md R55 to R57, opcode_table.json). -/
def registryRowD : List OpcodeEntry :=
  [ ⟨0xD0, .bne, .relative, 2, 2, .branch, .byte .bneRel⟩
  , ⟨0xD1, .cmp, .indirectIndexed, 2, 5, .pageCross, .byte .cmpIzy⟩
  , ⟨0xD3, .uDcp, .indirectIndexedWrite, 2, 8, .none, .byte .uDcpIzyW⟩
  , ⟨0xD4, .uNop, .zeroPageX, 2, 4, .none, .byte .uNopZpxD4⟩
  , ⟨0xD5, .cmp, .zeroPageX, 2, 4, .none, .byte .cmpZpx⟩
  , ⟨0xD6, .dec, .zeroPageX, 2, 6, .none, .byte .decZpx⟩
  , ⟨0xD7, .uDcp, .zeroPageX, 2, 6, .none, .byte .uDcpZpx⟩
  , ⟨0xD8, .cld, .implicit, 1, 2, .none, .none .cld⟩
  , ⟨0xD9, .cmp, .absoluteY, 3, 4, .pageCross, .word .cmpAby⟩
  , ⟨0xDA, .uNop, .implicit, 1, 2, .none, .none .uNopImpDA⟩
  , ⟨0xDB, .uDcp, .absoluteYWrite, 3, 7, .none, .word .uDcpAbyW⟩
  , ⟨0xDC, .uNop, .absoluteX, 3, 4, .pageCross, .word .uNopAbxDC⟩
  , ⟨0xDD, .cmp, .absoluteX, 3, 4, .pageCross, .word .cmpAbx⟩
  , ⟨0xDE, .dec, .absoluteXWrite, 3, 7, .none, .word .decAbxW⟩
  , ⟨0xDF, .uDcp, .absoluteXWrite, 3, 7, .none, .word .uDcpAbxW⟩ ]

/-- The entries of the opcode bytes `Ex` (30_encoding.md R55 to R57, opcode_table.json). -/
def registryRowE : List OpcodeEntry :=
  [ ⟨0xE0, .cpx, .immediate, 2, 2, .none, .byte .cpxImm⟩
  , ⟨0xE1, .sbc, .indexedIndirect, 2, 6, .none, .byte .sbcIzx⟩
  , ⟨0xE2, .uNop, .immediate, 2, 2, .none, .byte .uNopImmE2⟩
  , ⟨0xE3, .uIsb, .indexedIndirect, 2, 8, .none, .byte .uIsbIzx⟩
  , ⟨0xE4, .cpx, .zeroPage, 2, 3, .none, .byte .cpxZp⟩
  , ⟨0xE5, .sbc, .zeroPage, 2, 3, .none, .byte .sbcZp⟩
  , ⟨0xE6, .inc, .zeroPage, 2, 5, .none, .byte .incZp⟩
  , ⟨0xE7, .uIsb, .zeroPage, 2, 5, .none, .byte .uIsbZp⟩
  , ⟨0xE8, .inx, .implicit, 1, 2, .none, .none .inx⟩
  , ⟨0xE9, .sbc, .immediate, 2, 2, .none, .byte .sbcImm⟩
  , ⟨0xEA, .nop, .implicit, 1, 2, .none, .none .nop⟩
  , ⟨0xEB, .uSbc, .immediate, 2, 2, .none, .byte .uSbcImm⟩
  , ⟨0xEC, .cpx, .absolute, 3, 4, .none, .word .cpxAbs⟩
  , ⟨0xED, .sbc, .absolute, 3, 4, .none, .word .sbcAbs⟩
  , ⟨0xEE, .inc, .absolute, 3, 6, .none, .word .incAbs⟩
  , ⟨0xEF, .uIsb, .absolute, 3, 6, .none, .word .uIsbAbs⟩ ]

/-- The entries of the opcode bytes `Fx` (30_encoding.md R55 to R57, opcode_table.json). -/
def registryRowF : List OpcodeEntry :=
  [ ⟨0xF0, .beq, .relative, 2, 2, .branch, .byte .beqRel⟩
  , ⟨0xF1, .sbc, .indirectIndexed, 2, 5, .pageCross, .byte .sbcIzy⟩
  , ⟨0xF3, .uIsb, .indirectIndexedWrite, 2, 8, .none, .byte .uIsbIzyW⟩
  , ⟨0xF4, .uNop, .zeroPageX, 2, 4, .none, .byte .uNopZpxF4⟩
  , ⟨0xF5, .sbc, .zeroPageX, 2, 4, .none, .byte .sbcZpx⟩
  , ⟨0xF6, .inc, .zeroPageX, 2, 6, .none, .byte .incZpx⟩
  , ⟨0xF7, .uIsb, .zeroPageX, 2, 6, .none, .byte .uIsbZpx⟩
  , ⟨0xF8, .sed, .implicit, 1, 2, .none, .none .sed⟩
  , ⟨0xF9, .sbc, .absoluteY, 3, 4, .pageCross, .word .sbcAby⟩
  , ⟨0xFA, .uNop, .implicit, 1, 2, .none, .none .uNopImpFA⟩
  , ⟨0xFB, .uIsb, .absoluteYWrite, 3, 7, .none, .word .uIsbAbyW⟩
  , ⟨0xFC, .uNop, .absoluteX, 3, 4, .pageCross, .word .uNopAbxFC⟩
  , ⟨0xFD, .sbc, .absoluteX, 3, 4, .pageCross, .word .sbcAbx⟩
  , ⟨0xFE, .inc, .absoluteXWrite, 3, 7, .none, .word .incAbxW⟩
  , ⟨0xFF, .uIsb, .absoluteXWrite, 3, 7, .none, .word .uIsbAbxW⟩ ]

/-- The rows of the registry, one for each high nibble of the opcode byte. -/
def registryRows : List (List OpcodeEntry) :=
  [ registryRow0, registryRow1, registryRow2, registryRow3, registryRow4, registryRow5,
    registryRow6, registryRow7, registryRow8, registryRow9, registryRowA, registryRowB,
    registryRowC, registryRowD, registryRowE, registryRowF ]

/-- The Opcode Registry: all 231 entries (30_encoding.md R50). -/
def registry : List OpcodeEntry := registryRows.flatten

/-- `Registry.lookup`, a partial function of the byte alone (30_encoding.md R50, R52). -/
def lookup (b : Byte) : Option OpcodeEntry :=
  (registryRows.getD (b.toNat / 16) []).find? (fun e => e.opcode == b)

/-- The verdict of the decoder on a byte stream (30_encoding.md R60). `truncated` is a DESIGN
CHOICE of the model (log entry 15): R60 gives no verdict for a stream that ends too soon. -/
inductive Decoded
  /-- An instruction and the bytes after it. -/
  | ok (i : Instr) (rest : List Byte)
  /-- Byte 0 is absent from the registry: "unknown opcode". -/
  | unknownOpcode (b : Byte)
  /-- The stream is empty, or ends before the instruction does. The step never meets this: the Bus
  answers every read. -/
  | truncated
  deriving DecidableEq, Repr

/-- Completes a template with the operand bytes at the head of the stream, the 16-bit field
assembled low byte first (30_encoding.md R54). -/
def decodeOperands : Template → List Byte → Decoded
  | .none i, bs => .ok i bs
  | .byte f, b1 :: bs => .ok (f b1) bs
  | .byte _, [] => .truncated
  | .word f, b1 :: b2 :: bs => .ok (f (addrOfBytes b2 b1)) bs
  | .word _, _ => .truncated

/-- The decoder, total on any bytes: byte 0 alone selects the entry (30_encoding.md R52, R60). -/
def decode : List Byte → Decoded
  | [] => .truncated
  | b :: bs =>
    match lookup b with
    | none => .unknownOpcode b
    | some e => decodeOperands e.make bs

/-- The instruction the decoder reads from an instruction given as one number, bit 0 the least
significant bit of its first byte; every bit from `nbits` up is 0. -/
def decodeTableWord (nbits w : Nat) : Option Instr :=
  let v := w % 2 ^ nbits
  match decode [BitVec.ofNat 8 v, BitVec.ofNat 8 (v / 256), BitVec.ofNat 8 (v / 65536)] with
  | .ok i _ => some i
  | _ => none

/-- An instruction seen as its mnemonic, its operand form and its base cycle cost. -/
structure InstrView where
  op     : Op
  form   : AddrForm
  cycles : Nat
  deriving DecidableEq, Repr

/-- What the tables of 30_encoding.md R56 and R57 say of each instruction. -/
def Instr.view : Instr → InstrView
  | .brk => ⟨.brk, .implicit, 7⟩
  | .oraIzx z => ⟨.ora, .mem (.indexedIndirect z), 6⟩
  | .uSloIzx z => ⟨.uSlo, .mem (.indexedIndirect z), 8⟩
  | .uNopZp04 z => ⟨.uNop, .mem (.zeroPage z), 3⟩
  | .oraZp z => ⟨.ora, .mem (.zeroPage z), 3⟩
  | .aslZp z => ⟨.asl, .mem (.zeroPage z), 5⟩
  | .uSloZp z => ⟨.uSlo, .mem (.zeroPage z), 5⟩
  | .php => ⟨.php, .implicit, 3⟩
  | .oraImm v => ⟨.ora, .immediate v, 2⟩
  | .aslAcc => ⟨.asl, .accumulator, 2⟩
  | .uNopAbs0C a => ⟨.uNop, .mem (.absolute a), 4⟩
  | .oraAbs a => ⟨.ora, .mem (.absolute a), 4⟩
  | .aslAbs a => ⟨.asl, .mem (.absolute a), 6⟩
  | .uSloAbs a => ⟨.uSlo, .mem (.absolute a), 6⟩
  | .bplRel d => ⟨.bpl, .relative d, 2⟩
  | .oraIzy z => ⟨.ora, .mem (.indirectIndexed z), 5⟩
  | .uSloIzyW z => ⟨.uSlo, .mem (.indirectIndexedWrite z), 8⟩
  | .uNopZpx14 z => ⟨.uNop, .mem (.zeroPageX z), 4⟩
  | .oraZpx z => ⟨.ora, .mem (.zeroPageX z), 4⟩
  | .aslZpx z => ⟨.asl, .mem (.zeroPageX z), 6⟩
  | .uSloZpx z => ⟨.uSlo, .mem (.zeroPageX z), 6⟩
  | .clc => ⟨.clc, .implicit, 2⟩
  | .oraAby a => ⟨.ora, .mem (.absoluteY a), 4⟩
  | .uNopImp1A => ⟨.uNop, .implicit, 2⟩
  | .uSloAbyW a => ⟨.uSlo, .mem (.absoluteYWrite a), 7⟩
  | .uNopAbx1C a => ⟨.uNop, .mem (.absoluteX a), 4⟩
  | .oraAbx a => ⟨.ora, .mem (.absoluteX a), 4⟩
  | .aslAbxW a => ⟨.asl, .mem (.absoluteXWrite a), 7⟩
  | .uSloAbxW a => ⟨.uSlo, .mem (.absoluteXWrite a), 7⟩
  | .jsrAbs a => ⟨.jsr, .mem (.absolute a), 6⟩
  | .andIzx z => ⟨.and, .mem (.indexedIndirect z), 6⟩
  | .uRlaIzx z => ⟨.uRla, .mem (.indexedIndirect z), 8⟩
  | .bitZp z => ⟨.bit, .mem (.zeroPage z), 3⟩
  | .andZp z => ⟨.and, .mem (.zeroPage z), 3⟩
  | .rolZp z => ⟨.rol, .mem (.zeroPage z), 5⟩
  | .uRlaZp z => ⟨.uRla, .mem (.zeroPage z), 5⟩
  | .plp => ⟨.plp, .implicit, 4⟩
  | .andImm v => ⟨.and, .immediate v, 2⟩
  | .rolAcc => ⟨.rol, .accumulator, 2⟩
  | .bitAbs a => ⟨.bit, .mem (.absolute a), 4⟩
  | .andAbs a => ⟨.and, .mem (.absolute a), 4⟩
  | .rolAbs a => ⟨.rol, .mem (.absolute a), 6⟩
  | .uRlaAbs a => ⟨.uRla, .mem (.absolute a), 6⟩
  | .bmiRel d => ⟨.bmi, .relative d, 2⟩
  | .andIzy z => ⟨.and, .mem (.indirectIndexed z), 5⟩
  | .uRlaIzyW z => ⟨.uRla, .mem (.indirectIndexedWrite z), 8⟩
  | .uNopZpx34 z => ⟨.uNop, .mem (.zeroPageX z), 4⟩
  | .andZpx z => ⟨.and, .mem (.zeroPageX z), 4⟩
  | .rolZpx z => ⟨.rol, .mem (.zeroPageX z), 6⟩
  | .uRlaZpx z => ⟨.uRla, .mem (.zeroPageX z), 6⟩
  | .sec => ⟨.sec, .implicit, 2⟩
  | .andAby a => ⟨.and, .mem (.absoluteY a), 4⟩
  | .uNopImp3A => ⟨.uNop, .implicit, 2⟩
  | .uRlaAbyW a => ⟨.uRla, .mem (.absoluteYWrite a), 7⟩
  | .uNopAbx3C a => ⟨.uNop, .mem (.absoluteX a), 4⟩
  | .andAbx a => ⟨.and, .mem (.absoluteX a), 4⟩
  | .rolAbxW a => ⟨.rol, .mem (.absoluteXWrite a), 7⟩
  | .uRlaAbxW a => ⟨.uRla, .mem (.absoluteXWrite a), 7⟩
  | .rti => ⟨.rti, .implicit, 6⟩
  | .eorIzx z => ⟨.eor, .mem (.indexedIndirect z), 6⟩
  | .uSreIzx z => ⟨.uSre, .mem (.indexedIndirect z), 8⟩
  | .uNopZp44 z => ⟨.uNop, .mem (.zeroPage z), 3⟩
  | .eorZp z => ⟨.eor, .mem (.zeroPage z), 3⟩
  | .lsrZp z => ⟨.lsr, .mem (.zeroPage z), 5⟩
  | .uSreZp z => ⟨.uSre, .mem (.zeroPage z), 5⟩
  | .pha => ⟨.pha, .implicit, 3⟩
  | .eorImm v => ⟨.eor, .immediate v, 2⟩
  | .lsrAcc => ⟨.lsr, .accumulator, 2⟩
  | .jmpAbs a => ⟨.jmp, .mem (.absolute a), 3⟩
  | .eorAbs a => ⟨.eor, .mem (.absolute a), 4⟩
  | .lsrAbs a => ⟨.lsr, .mem (.absolute a), 6⟩
  | .uSreAbs a => ⟨.uSre, .mem (.absolute a), 6⟩
  | .bvcRel d => ⟨.bvc, .relative d, 2⟩
  | .eorIzy z => ⟨.eor, .mem (.indirectIndexed z), 5⟩
  | .uSreIzyW z => ⟨.uSre, .mem (.indirectIndexedWrite z), 8⟩
  | .uNopZpx54 z => ⟨.uNop, .mem (.zeroPageX z), 4⟩
  | .eorZpx z => ⟨.eor, .mem (.zeroPageX z), 4⟩
  | .lsrZpx z => ⟨.lsr, .mem (.zeroPageX z), 6⟩
  | .uSreZpx z => ⟨.uSre, .mem (.zeroPageX z), 6⟩
  | .cli => ⟨.cli, .implicit, 2⟩
  | .eorAby a => ⟨.eor, .mem (.absoluteY a), 4⟩
  | .uNopImp5A => ⟨.uNop, .implicit, 2⟩
  | .uSreAbyW a => ⟨.uSre, .mem (.absoluteYWrite a), 7⟩
  | .uNopAbx5C a => ⟨.uNop, .mem (.absoluteX a), 4⟩
  | .eorAbx a => ⟨.eor, .mem (.absoluteX a), 4⟩
  | .lsrAbxW a => ⟨.lsr, .mem (.absoluteXWrite a), 7⟩
  | .uSreAbxW a => ⟨.uSre, .mem (.absoluteXWrite a), 7⟩
  | .rts => ⟨.rts, .implicit, 6⟩
  | .adcIzx z => ⟨.adc, .mem (.indexedIndirect z), 6⟩
  | .uRraIzx z => ⟨.uRra, .mem (.indexedIndirect z), 8⟩
  | .uNopZp64 z => ⟨.uNop, .mem (.zeroPage z), 3⟩
  | .adcZp z => ⟨.adc, .mem (.zeroPage z), 3⟩
  | .rorZp z => ⟨.ror, .mem (.zeroPage z), 5⟩
  | .uRraZp z => ⟨.uRra, .mem (.zeroPage z), 5⟩
  | .pla => ⟨.pla, .implicit, 4⟩
  | .adcImm v => ⟨.adc, .immediate v, 2⟩
  | .rorAcc => ⟨.ror, .accumulator, 2⟩
  | .jmpInd p => ⟨.jmp, .mem (.indirect p), 5⟩
  | .adcAbs a => ⟨.adc, .mem (.absolute a), 4⟩
  | .rorAbs a => ⟨.ror, .mem (.absolute a), 6⟩
  | .uRraAbs a => ⟨.uRra, .mem (.absolute a), 6⟩
  | .bvsRel d => ⟨.bvs, .relative d, 2⟩
  | .adcIzy z => ⟨.adc, .mem (.indirectIndexed z), 5⟩
  | .uRraIzyW z => ⟨.uRra, .mem (.indirectIndexedWrite z), 8⟩
  | .uNopZpx74 z => ⟨.uNop, .mem (.zeroPageX z), 4⟩
  | .adcZpx z => ⟨.adc, .mem (.zeroPageX z), 4⟩
  | .rorZpx z => ⟨.ror, .mem (.zeroPageX z), 6⟩
  | .uRraZpx z => ⟨.uRra, .mem (.zeroPageX z), 6⟩
  | .sei => ⟨.sei, .implicit, 2⟩
  | .adcAby a => ⟨.adc, .mem (.absoluteY a), 4⟩
  | .uNopImp7A => ⟨.uNop, .implicit, 2⟩
  | .uRraAbyW a => ⟨.uRra, .mem (.absoluteYWrite a), 7⟩
  | .uNopAbx7C a => ⟨.uNop, .mem (.absoluteX a), 4⟩
  | .adcAbx a => ⟨.adc, .mem (.absoluteX a), 4⟩
  | .rorAbxW a => ⟨.ror, .mem (.absoluteXWrite a), 7⟩
  | .uRraAbxW a => ⟨.uRra, .mem (.absoluteXWrite a), 7⟩
  | .uNopImm80 v => ⟨.uNop, .immediate v, 2⟩
  | .staIzx z => ⟨.sta, .mem (.indexedIndirect z), 6⟩
  | .uNopImm82 v => ⟨.uNop, .immediate v, 2⟩
  | .uSaxIzx z => ⟨.uSax, .mem (.indexedIndirect z), 6⟩
  | .styZp z => ⟨.sty, .mem (.zeroPage z), 3⟩
  | .staZp z => ⟨.sta, .mem (.zeroPage z), 3⟩
  | .stxZp z => ⟨.stx, .mem (.zeroPage z), 3⟩
  | .uSaxZp z => ⟨.uSax, .mem (.zeroPage z), 3⟩
  | .dey => ⟨.dey, .implicit, 2⟩
  | .uNopImm89 v => ⟨.uNop, .immediate v, 2⟩
  | .txa => ⟨.txa, .implicit, 2⟩
  | .styAbs a => ⟨.sty, .mem (.absolute a), 4⟩
  | .staAbs a => ⟨.sta, .mem (.absolute a), 4⟩
  | .stxAbs a => ⟨.stx, .mem (.absolute a), 4⟩
  | .uSaxAbs a => ⟨.uSax, .mem (.absolute a), 4⟩
  | .bccRel d => ⟨.bcc, .relative d, 2⟩
  | .staIzyW z => ⟨.sta, .mem (.indirectIndexedWrite z), 6⟩
  | .styZpx z => ⟨.sty, .mem (.zeroPageX z), 4⟩
  | .staZpx z => ⟨.sta, .mem (.zeroPageX z), 4⟩
  | .stxZpy z => ⟨.stx, .mem (.zeroPageY z), 4⟩
  | .uSaxZpy z => ⟨.uSax, .mem (.zeroPageY z), 4⟩
  | .tya => ⟨.tya, .implicit, 2⟩
  | .staAbyW a => ⟨.sta, .mem (.absoluteYWrite a), 5⟩
  | .txs => ⟨.txs, .implicit, 2⟩
  | .staAbxW a => ⟨.sta, .mem (.absoluteXWrite a), 5⟩
  | .ldyImm v => ⟨.ldy, .immediate v, 2⟩
  | .ldaIzx z => ⟨.lda, .mem (.indexedIndirect z), 6⟩
  | .ldxImm v => ⟨.ldx, .immediate v, 2⟩
  | .uLaxIzx z => ⟨.uLax, .mem (.indexedIndirect z), 6⟩
  | .ldyZp z => ⟨.ldy, .mem (.zeroPage z), 3⟩
  | .ldaZp z => ⟨.lda, .mem (.zeroPage z), 3⟩
  | .ldxZp z => ⟨.ldx, .mem (.zeroPage z), 3⟩
  | .uLaxZp z => ⟨.uLax, .mem (.zeroPage z), 3⟩
  | .tay => ⟨.tay, .implicit, 2⟩
  | .ldaImm v => ⟨.lda, .immediate v, 2⟩
  | .tax => ⟨.tax, .implicit, 2⟩
  | .ldyAbs a => ⟨.ldy, .mem (.absolute a), 4⟩
  | .ldaAbs a => ⟨.lda, .mem (.absolute a), 4⟩
  | .ldxAbs a => ⟨.ldx, .mem (.absolute a), 4⟩
  | .uLaxAbs a => ⟨.uLax, .mem (.absolute a), 4⟩
  | .bcsRel d => ⟨.bcs, .relative d, 2⟩
  | .ldaIzy z => ⟨.lda, .mem (.indirectIndexed z), 5⟩
  | .uLaxIzy z => ⟨.uLax, .mem (.indirectIndexed z), 5⟩
  | .ldyZpx z => ⟨.ldy, .mem (.zeroPageX z), 4⟩
  | .ldaZpx z => ⟨.lda, .mem (.zeroPageX z), 4⟩
  | .ldxZpy z => ⟨.ldx, .mem (.zeroPageY z), 4⟩
  | .uLaxZpy z => ⟨.uLax, .mem (.zeroPageY z), 4⟩
  | .clv => ⟨.clv, .implicit, 2⟩
  | .ldaAby a => ⟨.lda, .mem (.absoluteY a), 4⟩
  | .tsx => ⟨.tsx, .implicit, 2⟩
  | .ldyAbx a => ⟨.ldy, .mem (.absoluteX a), 4⟩
  | .ldaAbx a => ⟨.lda, .mem (.absoluteX a), 4⟩
  | .ldxAby a => ⟨.ldx, .mem (.absoluteY a), 4⟩
  | .uLaxAby a => ⟨.uLax, .mem (.absoluteY a), 4⟩
  | .cpyImm v => ⟨.cpy, .immediate v, 2⟩
  | .cmpIzx z => ⟨.cmp, .mem (.indexedIndirect z), 6⟩
  | .uNopImmC2 v => ⟨.uNop, .immediate v, 2⟩
  | .uDcpIzx z => ⟨.uDcp, .mem (.indexedIndirect z), 8⟩
  | .cpyZp z => ⟨.cpy, .mem (.zeroPage z), 3⟩
  | .cmpZp z => ⟨.cmp, .mem (.zeroPage z), 3⟩
  | .decZp z => ⟨.dec, .mem (.zeroPage z), 5⟩
  | .uDcpZp z => ⟨.uDcp, .mem (.zeroPage z), 5⟩
  | .iny => ⟨.iny, .implicit, 2⟩
  | .cmpImm v => ⟨.cmp, .immediate v, 2⟩
  | .dex => ⟨.dex, .implicit, 2⟩
  | .cpyAbs a => ⟨.cpy, .mem (.absolute a), 4⟩
  | .cmpAbs a => ⟨.cmp, .mem (.absolute a), 4⟩
  | .decAbs a => ⟨.dec, .mem (.absolute a), 6⟩
  | .uDcpAbs a => ⟨.uDcp, .mem (.absolute a), 6⟩
  | .bneRel d => ⟨.bne, .relative d, 2⟩
  | .cmpIzy z => ⟨.cmp, .mem (.indirectIndexed z), 5⟩
  | .uDcpIzyW z => ⟨.uDcp, .mem (.indirectIndexedWrite z), 8⟩
  | .uNopZpxD4 z => ⟨.uNop, .mem (.zeroPageX z), 4⟩
  | .cmpZpx z => ⟨.cmp, .mem (.zeroPageX z), 4⟩
  | .decZpx z => ⟨.dec, .mem (.zeroPageX z), 6⟩
  | .uDcpZpx z => ⟨.uDcp, .mem (.zeroPageX z), 6⟩
  | .cld => ⟨.cld, .implicit, 2⟩
  | .cmpAby a => ⟨.cmp, .mem (.absoluteY a), 4⟩
  | .uNopImpDA => ⟨.uNop, .implicit, 2⟩
  | .uDcpAbyW a => ⟨.uDcp, .mem (.absoluteYWrite a), 7⟩
  | .uNopAbxDC a => ⟨.uNop, .mem (.absoluteX a), 4⟩
  | .cmpAbx a => ⟨.cmp, .mem (.absoluteX a), 4⟩
  | .decAbxW a => ⟨.dec, .mem (.absoluteXWrite a), 7⟩
  | .uDcpAbxW a => ⟨.uDcp, .mem (.absoluteXWrite a), 7⟩
  | .cpxImm v => ⟨.cpx, .immediate v, 2⟩
  | .sbcIzx z => ⟨.sbc, .mem (.indexedIndirect z), 6⟩
  | .uNopImmE2 v => ⟨.uNop, .immediate v, 2⟩
  | .uIsbIzx z => ⟨.uIsb, .mem (.indexedIndirect z), 8⟩
  | .cpxZp z => ⟨.cpx, .mem (.zeroPage z), 3⟩
  | .sbcZp z => ⟨.sbc, .mem (.zeroPage z), 3⟩
  | .incZp z => ⟨.inc, .mem (.zeroPage z), 5⟩
  | .uIsbZp z => ⟨.uIsb, .mem (.zeroPage z), 5⟩
  | .inx => ⟨.inx, .implicit, 2⟩
  | .sbcImm v => ⟨.sbc, .immediate v, 2⟩
  | .nop => ⟨.nop, .implicit, 2⟩
  | .uSbcImm v => ⟨.uSbc, .immediate v, 2⟩
  | .cpxAbs a => ⟨.cpx, .mem (.absolute a), 4⟩
  | .sbcAbs a => ⟨.sbc, .mem (.absolute a), 4⟩
  | .incAbs a => ⟨.inc, .mem (.absolute a), 6⟩
  | .uIsbAbs a => ⟨.uIsb, .mem (.absolute a), 6⟩
  | .beqRel d => ⟨.beq, .relative d, 2⟩
  | .sbcIzy z => ⟨.sbc, .mem (.indirectIndexed z), 5⟩
  | .uIsbIzyW z => ⟨.uIsb, .mem (.indirectIndexedWrite z), 8⟩
  | .uNopZpxF4 z => ⟨.uNop, .mem (.zeroPageX z), 4⟩
  | .sbcZpx z => ⟨.sbc, .mem (.zeroPageX z), 4⟩
  | .incZpx z => ⟨.inc, .mem (.zeroPageX z), 6⟩
  | .uIsbZpx z => ⟨.uIsb, .mem (.zeroPageX z), 6⟩
  | .sed => ⟨.sed, .implicit, 2⟩
  | .sbcAby a => ⟨.sbc, .mem (.absoluteY a), 4⟩
  | .uNopImpFA => ⟨.uNop, .implicit, 2⟩
  | .uIsbAbyW a => ⟨.uIsb, .mem (.absoluteYWrite a), 7⟩
  | .uNopAbxFC a => ⟨.uNop, .mem (.absoluteX a), 4⟩
  | .sbcAbx a => ⟨.sbc, .mem (.absoluteX a), 4⟩
  | .incAbxW a => ⟨.inc, .mem (.absoluteXWrite a), 7⟩
  | .uIsbAbxW a => ⟨.uIsb, .mem (.absoluteXWrite a), 7⟩

/-- The mnemonic of an instruction. -/
def Instr.op (i : Instr) : Op := i.view.op

/-- The operand form of an instruction. -/
def Instr.form (i : Instr) : AddrForm := i.view.form

/-- The base cycle cost of an instruction (30_encoding.md R64). -/
def Instr.baseCycles (i : Instr) : Nat := i.view.cycles

/-- The mode of a memory form. -/
def MemForm.mode : MemForm → Mode
  | .zeroPage _ => .zeroPage
  | .zeroPageX _ => .zeroPageX
  | .zeroPageY _ => .zeroPageY
  | .absolute _ => .absolute
  | .absoluteX _ => .absoluteX
  | .absoluteY _ => .absoluteY
  | .absoluteXWrite _ => .absoluteXWrite
  | .absoluteYWrite _ => .absoluteYWrite
  | .indirect _ => .indirect
  | .indexedIndirect _ => .indexedIndirect
  | .indirectIndexed _ => .indirectIndexed
  | .indirectIndexedWrite _ => .indirectIndexedWrite

/-- The mode of an operand form. -/
def AddrForm.mode : AddrForm → Mode
  | .implicit => .implicit
  | .accumulator => .accumulator
  | .immediate _ => .immediate
  | .relative _ => .relative
  | .mem m => m.mode

/-- The length of an instruction in bytes, by its mode (30_encoding.md R51). -/
def Instr.len (i : Instr) : Nat := i.form.mode.len

/-- The operand bytes of a memory form in memory order (30_encoding.md R53, R54). -/
def MemForm.bytes : MemForm → List Byte
  | .zeroPage z | .zeroPageX z | .zeroPageY z => [z]
  | .indexedIndirect z | .indirectIndexed z | .indirectIndexedWrite z => [z]
  | .absolute a | .absoluteX a | .absoluteY a => [lowByte a, highByte a]
  | .absoluteXWrite a | .absoluteYWrite a | .indirect a => [lowByte a, highByte a]

/-- The operand bytes of a form in memory order (30_encoding.md R53). -/
def AddrForm.bytes : AddrForm → List Byte
  | .implicit | .accumulator => []
  | .immediate v => [v]
  | .relative d => [d]
  | .mem m => m.bytes

/-- The opcode byte of an instruction (30_encoding.md R55 to R57). -/
def Instr.opcode : Instr → Byte
  | .brk => 0x00
  | .oraIzx _ => 0x01
  | .uSloIzx _ => 0x03
  | .uNopZp04 _ => 0x04
  | .oraZp _ => 0x05
  | .aslZp _ => 0x06
  | .uSloZp _ => 0x07
  | .php => 0x08
  | .oraImm _ => 0x09
  | .aslAcc => 0x0A
  | .uNopAbs0C _ => 0x0C
  | .oraAbs _ => 0x0D
  | .aslAbs _ => 0x0E
  | .uSloAbs _ => 0x0F
  | .bplRel _ => 0x10
  | .oraIzy _ => 0x11
  | .uSloIzyW _ => 0x13
  | .uNopZpx14 _ => 0x14
  | .oraZpx _ => 0x15
  | .aslZpx _ => 0x16
  | .uSloZpx _ => 0x17
  | .clc => 0x18
  | .oraAby _ => 0x19
  | .uNopImp1A => 0x1A
  | .uSloAbyW _ => 0x1B
  | .uNopAbx1C _ => 0x1C
  | .oraAbx _ => 0x1D
  | .aslAbxW _ => 0x1E
  | .uSloAbxW _ => 0x1F
  | .jsrAbs _ => 0x20
  | .andIzx _ => 0x21
  | .uRlaIzx _ => 0x23
  | .bitZp _ => 0x24
  | .andZp _ => 0x25
  | .rolZp _ => 0x26
  | .uRlaZp _ => 0x27
  | .plp => 0x28
  | .andImm _ => 0x29
  | .rolAcc => 0x2A
  | .bitAbs _ => 0x2C
  | .andAbs _ => 0x2D
  | .rolAbs _ => 0x2E
  | .uRlaAbs _ => 0x2F
  | .bmiRel _ => 0x30
  | .andIzy _ => 0x31
  | .uRlaIzyW _ => 0x33
  | .uNopZpx34 _ => 0x34
  | .andZpx _ => 0x35
  | .rolZpx _ => 0x36
  | .uRlaZpx _ => 0x37
  | .sec => 0x38
  | .andAby _ => 0x39
  | .uNopImp3A => 0x3A
  | .uRlaAbyW _ => 0x3B
  | .uNopAbx3C _ => 0x3C
  | .andAbx _ => 0x3D
  | .rolAbxW _ => 0x3E
  | .uRlaAbxW _ => 0x3F
  | .rti => 0x40
  | .eorIzx _ => 0x41
  | .uSreIzx _ => 0x43
  | .uNopZp44 _ => 0x44
  | .eorZp _ => 0x45
  | .lsrZp _ => 0x46
  | .uSreZp _ => 0x47
  | .pha => 0x48
  | .eorImm _ => 0x49
  | .lsrAcc => 0x4A
  | .jmpAbs _ => 0x4C
  | .eorAbs _ => 0x4D
  | .lsrAbs _ => 0x4E
  | .uSreAbs _ => 0x4F
  | .bvcRel _ => 0x50
  | .eorIzy _ => 0x51
  | .uSreIzyW _ => 0x53
  | .uNopZpx54 _ => 0x54
  | .eorZpx _ => 0x55
  | .lsrZpx _ => 0x56
  | .uSreZpx _ => 0x57
  | .cli => 0x58
  | .eorAby _ => 0x59
  | .uNopImp5A => 0x5A
  | .uSreAbyW _ => 0x5B
  | .uNopAbx5C _ => 0x5C
  | .eorAbx _ => 0x5D
  | .lsrAbxW _ => 0x5E
  | .uSreAbxW _ => 0x5F
  | .rts => 0x60
  | .adcIzx _ => 0x61
  | .uRraIzx _ => 0x63
  | .uNopZp64 _ => 0x64
  | .adcZp _ => 0x65
  | .rorZp _ => 0x66
  | .uRraZp _ => 0x67
  | .pla => 0x68
  | .adcImm _ => 0x69
  | .rorAcc => 0x6A
  | .jmpInd _ => 0x6C
  | .adcAbs _ => 0x6D
  | .rorAbs _ => 0x6E
  | .uRraAbs _ => 0x6F
  | .bvsRel _ => 0x70
  | .adcIzy _ => 0x71
  | .uRraIzyW _ => 0x73
  | .uNopZpx74 _ => 0x74
  | .adcZpx _ => 0x75
  | .rorZpx _ => 0x76
  | .uRraZpx _ => 0x77
  | .sei => 0x78
  | .adcAby _ => 0x79
  | .uNopImp7A => 0x7A
  | .uRraAbyW _ => 0x7B
  | .uNopAbx7C _ => 0x7C
  | .adcAbx _ => 0x7D
  | .rorAbxW _ => 0x7E
  | .uRraAbxW _ => 0x7F
  | .uNopImm80 _ => 0x80
  | .staIzx _ => 0x81
  | .uNopImm82 _ => 0x82
  | .uSaxIzx _ => 0x83
  | .styZp _ => 0x84
  | .staZp _ => 0x85
  | .stxZp _ => 0x86
  | .uSaxZp _ => 0x87
  | .dey => 0x88
  | .uNopImm89 _ => 0x89
  | .txa => 0x8A
  | .styAbs _ => 0x8C
  | .staAbs _ => 0x8D
  | .stxAbs _ => 0x8E
  | .uSaxAbs _ => 0x8F
  | .bccRel _ => 0x90
  | .staIzyW _ => 0x91
  | .styZpx _ => 0x94
  | .staZpx _ => 0x95
  | .stxZpy _ => 0x96
  | .uSaxZpy _ => 0x97
  | .tya => 0x98
  | .staAbyW _ => 0x99
  | .txs => 0x9A
  | .staAbxW _ => 0x9D
  | .ldyImm _ => 0xA0
  | .ldaIzx _ => 0xA1
  | .ldxImm _ => 0xA2
  | .uLaxIzx _ => 0xA3
  | .ldyZp _ => 0xA4
  | .ldaZp _ => 0xA5
  | .ldxZp _ => 0xA6
  | .uLaxZp _ => 0xA7
  | .tay => 0xA8
  | .ldaImm _ => 0xA9
  | .tax => 0xAA
  | .ldyAbs _ => 0xAC
  | .ldaAbs _ => 0xAD
  | .ldxAbs _ => 0xAE
  | .uLaxAbs _ => 0xAF
  | .bcsRel _ => 0xB0
  | .ldaIzy _ => 0xB1
  | .uLaxIzy _ => 0xB3
  | .ldyZpx _ => 0xB4
  | .ldaZpx _ => 0xB5
  | .ldxZpy _ => 0xB6
  | .uLaxZpy _ => 0xB7
  | .clv => 0xB8
  | .ldaAby _ => 0xB9
  | .tsx => 0xBA
  | .ldyAbx _ => 0xBC
  | .ldaAbx _ => 0xBD
  | .ldxAby _ => 0xBE
  | .uLaxAby _ => 0xBF
  | .cpyImm _ => 0xC0
  | .cmpIzx _ => 0xC1
  | .uNopImmC2 _ => 0xC2
  | .uDcpIzx _ => 0xC3
  | .cpyZp _ => 0xC4
  | .cmpZp _ => 0xC5
  | .decZp _ => 0xC6
  | .uDcpZp _ => 0xC7
  | .iny => 0xC8
  | .cmpImm _ => 0xC9
  | .dex => 0xCA
  | .cpyAbs _ => 0xCC
  | .cmpAbs _ => 0xCD
  | .decAbs _ => 0xCE
  | .uDcpAbs _ => 0xCF
  | .bneRel _ => 0xD0
  | .cmpIzy _ => 0xD1
  | .uDcpIzyW _ => 0xD3
  | .uNopZpxD4 _ => 0xD4
  | .cmpZpx _ => 0xD5
  | .decZpx _ => 0xD6
  | .uDcpZpx _ => 0xD7
  | .cld => 0xD8
  | .cmpAby _ => 0xD9
  | .uNopImpDA => 0xDA
  | .uDcpAbyW _ => 0xDB
  | .uNopAbxDC _ => 0xDC
  | .cmpAbx _ => 0xDD
  | .decAbxW _ => 0xDE
  | .uDcpAbxW _ => 0xDF
  | .cpxImm _ => 0xE0
  | .sbcIzx _ => 0xE1
  | .uNopImmE2 _ => 0xE2
  | .uIsbIzx _ => 0xE3
  | .cpxZp _ => 0xE4
  | .sbcZp _ => 0xE5
  | .incZp _ => 0xE6
  | .uIsbZp _ => 0xE7
  | .inx => 0xE8
  | .sbcImm _ => 0xE9
  | .nop => 0xEA
  | .uSbcImm _ => 0xEB
  | .cpxAbs _ => 0xEC
  | .sbcAbs _ => 0xED
  | .incAbs _ => 0xEE
  | .uIsbAbs _ => 0xEF
  | .beqRel _ => 0xF0
  | .sbcIzy _ => 0xF1
  | .uIsbIzyW _ => 0xF3
  | .uNopZpxF4 _ => 0xF4
  | .sbcZpx _ => 0xF5
  | .incZpx _ => 0xF6
  | .uIsbZpx _ => 0xF7
  | .sed => 0xF8
  | .sbcAby _ => 0xF9
  | .uNopImpFA => 0xFA
  | .uIsbAbyW _ => 0xFB
  | .uNopAbxFC _ => 0xFC
  | .sbcAbx _ => 0xFD
  | .incAbxW _ => 0xFE
  | .uIsbAbxW _ => 0xFF

/-- The bytes of an instruction in memory order (30_encoding.md R53). -/
def encode (i : Instr) : List Byte := i.opcode :: i.form.bytes

end Sys2Proof
end

