-- ==== Sys2Proof/Machine/State.lean ====
section
/-! DEFINITION. The state of the machine as plain data (10_state.md), the reasons a step can
stop, and the state right after power-on (70_reset_and_hazards.md R231). -/

namespace Sys2Proof.Machine

/-- The six flags that are storage in `P` (10_state.md R15 to R20). Bit 4 is no storage element
(R21) and bit 5 is hard-wired (R22): `Flags.pack` supplies both (log entry 6). -/
structure Flags where
  n : Bool
  v : Bool
  d : Bool
  i : Bool
  z : Bool
  c : Bool
  deriving DecidableEq, Repr

/-- The engine's run state at an instruction boundary (10_state.md R24). -/
inductive RunState
  | idle
  | halted (pc : Addr) (opcode : Byte)
  deriving DecidableEq, Repr

/-- One Bus event (20_memory.md R31, R33). -/
inductive BusEvent
  | read (a : Addr) (v : Byte)
  | write (a : Addr) (v : Byte)
  | tick (n : Nat)
  deriving DecidableEq, Repr

/-- What the environment may do between two steps (70_reset_and_hazards.md R240, R247). -/
inductive EnvMove
  /-- A falling edge on the NMI line (60_exceptions.md R205). -/
  | nmiEdge
  /-- The IRQ line is driven to a level (60_exceptions.md R205). -/
  | irqLevel (level : Bool)
  /-- Another party changes a memory cell. -/
  | poke (a : Addr) (v : Byte)
  deriving DecidableEq, Repr

/-- Memory behind the Bus: address and byte pairs, addresses strictly rising, no entry equal to
what an unlisted address answers (`Memory.wf`). -/
abbrev Memory := List Host.Cell

/-- Everything the machine holds. -/
structure State where
  /-- The accumulator (10_state.md R11). -/
  a : Byte
  /-- Index register X (10_state.md R12). -/
  x : Byte
  /-- Index register Y (10_state.md R12). -/
  y : Byte
  /-- The stack pointer (10_state.md R13). -/
  sp : Byte
  /-- The program counter (10_state.md R14). -/
  pc : Addr
  /-- The flag register P (10_state.md R15). -/
  p : Flags
  /-- The cycle counter, an unbounded natural number (10_state.md R23). -/
  cyc : Nat
  /-- The run state (10_state.md R24). -/
  run : RunState
  /-- The latched NMI request (10_state.md R25). -/
  nmiPending : Bool
  /-- The present level of the IRQ line, the environment's (10_state.md R25). -/
  irqLine : Bool
  /-- Memory behind the Bus (20_memory.md R30). -/
  mem : Memory
  /-- The environment's answers to the next reads, one entry a read: `some v` answers `v`, `none`
  and the empty list let the memory answer (20_memory.md R31; log entry 1). -/
  answers : List (Option Byte)
  /-- The environment's moves at the next instruction boundaries, one entry a boundary
  (70_reset_and_hazards.md R240; log entry 5). -/
  schedule : List (List EnvMove)
  /-- Every Bus event so far, oldest first (20_memory.md R31, R32; log entry 7). -/
  bus : List BusEvent
  deriving DecidableEq, Repr

/-- Why the machine stops with a fault. -/
inductive Fault
  /-- Raised by a step that fetches an opcode byte absent from the registry
  (60_exceptions.md R200): the address and the byte of the diagnostic, and the final state, which
  is Halted. Safe: the machine stops where the spec says it does. -/
  | unknownOpcode (pc : Addr) (opcode : Byte) (final : State)
  /-- Raised by a step asked of a Halted core, which has none (10_state.md R24). Safe: no
  successor is given. -/
  | halted (pc : Addr) (opcode : Byte)
  deriving DecidableEq, Repr

/-- Why an instruction has no meaning. -/
inductive Refusal
  /-- Raised by an arm of `exec` whose instruction has no meaning yet; no arm does so. Safe. -/
  | notModelled (mnemonic : String)
  deriving DecidableEq, Repr

/-- What a step or a meaning answers. -/
abbrev Result := Host.Outcome State Fault Refusal

/-- The machine right after power-on (70_reset_and_hazards.md R231) over a platform with nothing
listed and a quiet environment (log entries 2 to 4): `PC` has been read from the RESET vector.
`Machine/Ops.lean` holds the power-on sequence this is the outcome of. -/
def State.reset : State where
  a := 0x00
  x := 0x00
  y := 0x00
  sp := 0xFD
  pc := 0x0000
  p := ⟨false, false, false, true, false, false⟩
  cyc := 7
  run := .idle
  nmiPending := false
  irqLine := false
  mem := []
  answers := []
  schedule := []
  bus := [.read 0xFFFC 0x00, .read 0xFFFD 0x00, .tick 7]

end Sys2Proof.Machine
end

