-- ==== Sys2Proof/Machine/Flags.lean ====
section
/-! DEFINITION. Bit-level helpers, the flag byte, and every flag computation of the spec
(00_scope.md R6, 10_state.md R18 to R29, 42_arithmetic.md R110, 45_compare.md R145). -/

namespace Sys2Proof.Machine

/-- `page(a) = a[15:8]` (00_scope.md R6). -/
def page (a : Addr) : Byte := highByte a

/-- `zext_16` (00_scope.md R6). -/
def zext16 (b : Byte) : Addr := b.setWidth 16

/-- `sext_16` (00_scope.md R6). -/
def sext16 (b : Byte) : Addr := b.signExtend 16

/-- A flag as a byte that is 0 or 1. -/
def flagByte (b : Bool) : Byte := if b then 1 else 0

/-- `PackP(brk)`, bit 7 first: N, V, 1, brk, D, I, Z, C (10_state.md R29). -/
def Flags.pack (brk : Bool) (f : Flags) : Byte :=
  BitVec.ofBool f.n ++ BitVec.ofBool f.v ++ 1#1 ++ BitVec.ofBool brk ++
    BitVec.ofBool f.d ++ BitVec.ofBool f.i ++ BitVec.ofBool f.z ++ BitVec.ofBool f.c

/-- `UnpackP(v)`; bits 5 and 4 are ignored (10_state.md R29). -/
def Flags.unpack (v : Byte) : Flags where
  n := v[7]
  v := v[6]
  d := v[3]
  i := v[2]
  z := v[1]
  c := v[0]

/-- The register `P` read as a byte: bit 5 reads 1, bit 4 reads 0 (10_state.md R21, R22, R29). -/
def State.pByte (s : State) : Byte := s.p.pack false

/-- `SetZN(v)` on the flags (10_state.md R18). -/
def Flags.setZN (r : Byte) (f : Flags) : Flags := { f with z := r == 0, n := r[7] }

/-- The 8-bit sum of add-with-carry (42_arithmetic.md R110). -/
def addResult (a m : Byte) (c : Bool) : Byte := BitVec.ofNat 8 (a.toNat + m.toNat + c.toNat)

/-- The carry out of bit 7 of add-with-carry (42_arithmetic.md R110). -/
def addCarry (a m : Byte) (c : Bool) : Bool := decide (a.toNat + m.toNat + c.toNat > 255)

/-- The signed overflow of add-with-carry: `((~(A ^ m)) & (A ^ r))[7]` (42_arithmetic.md R110,
spec decision D32). -/
def addOverflow (a m : Byte) (c : Bool) : Bool :=
  ((~~~(a ^^^ m)) &&& (a ^^^ addResult a m c))[7]

/-- The flags `AddCore` leaves (42_arithmetic.md R110). -/
def Flags.afterAdd (a m : Byte) (f : Flags) : Flags :=
  Flags.setZN (addResult a m f.c) { f with c := addCarry a m f.c, v := addOverflow a m f.c }

/-- The flags `CompareCore` leaves: carry is unsigned `reg >= m`, zero and negative come from the
8-bit difference (45_compare.md R145). -/
def Flags.afterCompare (reg m : Byte) (f : Flags) : Flags :=
  Flags.setZN (reg - m) { f with c := decide (m.toNat ≤ reg.toNat) }

/-- The flags `BIT` leaves (41_logical.md R104). -/
def Flags.afterBit (a m : Byte) (f : Flags) : Flags :=
  { f with z := (a &&& m) == 0, n := m[7], v := m[6] }

end Sys2Proof.Machine
end

