-- ==== Sys2Proof/Machine/Ops.lean ====
section
/-! DEFINITION. The named operations over memory, the Bus, the registers and the stack
(20_memory.md), taking an exception and returning from one (60_exceptions.md R208,
48_system.md R180, R181), and power-on (70_reset_and_hazards.md R230). -/

namespace Sys2Proof.Machine

/-- The byte a memory holds at an address; an unlisted address reads `Config.unlistedByte`. -/
def Memory.read : Memory → Nat → Byte
  | [], _ => Config.unlistedByte
  | (j, w) :: rest, k => if j = k then w else Memory.read rest k

/-- Puts a cell in front of a memory, unless it holds what an unlisted address reads. -/
def Memory.put (k : Nat) (v : Byte) (m : Memory) : Memory :=
  if v = Config.unlistedByte then m else (k, v) :: m

/-- Writes a byte, keeping the canonical form. -/
def Memory.write : Memory → Nat → Byte → Memory
  | [], k, v => Memory.put k v []
  | (j, w) :: rest, k, v =>
    if k < j then Memory.put k v ((j, w) :: rest)
    else if k = j then Memory.put k v rest
    else (j, w) :: Memory.write rest k v

/-- The canonical form from a lower bound on: addresses strictly rising, all below 65536, and no
entry equal to what an unlisted address reads. -/
def Memory.wfFrom : Nat → Memory → Bool
  | _, [] => true
  | lo, (j, w) :: rest =>
    decide (lo ≤ j) && decide (j < 65536) && (w != Config.unlistedByte) &&
      Memory.wfFrom (j + 1) rest

/-- The canonical form of memory. -/
def Memory.wf (m : Memory) : Bool := Memory.wfFrom 0 m

/-- The byte memory holds at a 16-bit address, without any Bus event. -/
def State.peek (s : State) (a : Addr) : Byte := Memory.read s.mem a.toNat

/-- What the next Bus read of `a` answers: the environment's answer if it gives one, else the
memory's byte (20_memory.md R31; log entry 1). -/
def State.busAnswer (s : State) (a : Addr) : Byte :=
  match s.answers with
  | some v :: _ => v
  | _ => s.peek a

/-- `MemRead(addr, 1)`: one Bus read event (20_memory.md R31). -/
def memRead (a : Addr) (s : State) : Byte × State :=
  (s.busAnswer a,
    { s with answers := s.answers.tail, bus := s.bus ++ [.read a (s.busAnswer a)] })

/-- `MemWrite(addr, 1, v)`: one Bus write event (20_memory.md R31). -/
def memWrite (a : Addr) (v : Byte) (s : State) : State :=
  { s with mem := Memory.write s.mem a.toNat v, bus := s.bus ++ [.write a v] }

/-- `Tick(n)`: one Bus tick event, and `cyc` grows by `n` (20_memory.md R33). -/
def tick (n : Nat) (s : State) : State :=
  { s with cyc := s.cyc + n, bus := s.bus ++ [.tick n] }

/-- Two Bus reads, the low byte at `lo` and then the high byte at `hi`. -/
def readPair (lo hi : Addr) (s : State) : Addr × State :=
  let l := memRead lo s
  let h := memRead hi l.2
  (addrOfBytes h.1 l.1, h.2)

/-- `Read16(a)` (20_memory.md R35). -/
def read16 (a : Addr) (s : State) : Addr × State := readPair a (a + 1) s

/-- A zero-page address `{0x00, z}` (40_step_and_addressing.md R77). -/
def zeroPageAddr (z : Byte) : Addr := addrOfBytes 0x00 z

/-- `Read16ZP(z)`: the pointer's second byte wraps in the zero page (20_memory.md R36, spec
decision D20). -/
def read16ZP (z : Byte) (s : State) : Addr × State :=
  readPair (zeroPageAddr z) (zeroPageAddr (z + 1)) s

/-- The address of the high byte of an indirect-jump pointer: the start of the same page when the
low byte is 0xFF (20_memory.md R37). -/
def wrapInPage (a : Addr) : Addr := addrOfBytes (highByte a) (lowByte a + 1)

/-- `Read16Wrap(a)` (20_memory.md R37). -/
def read16Wrap (a : Addr) (s : State) : Addr × State := readPair a (wrapInPage a) s

/-- A stack address `{StackPage, SP}` (10_state.md R13). -/
def stackAddr (sp : Byte) : Addr := addrOfBytes Config.stackPage sp

/-- `Push(v)`: write at the old `SP`, then decrement (20_memory.md R38, spec decision D5). -/
def push (v : Byte) (s : State) : State :=
  { memWrite (stackAddr s.sp) v s with sp := s.sp - 1 }

/-- `Pull()`: increment `SP`, then read at the new `SP` (20_memory.md R39, spec decision D5). -/
def pull (s : State) : Byte × State :=
  memRead (stackAddr (s.sp + 1)) { s with sp := s.sp + 1 }

/-- Pushes a 16-bit value, high byte first (20_memory.md R34). -/
def pushAddr (a : Addr) (s : State) : State := push (lowByte a) (push (highByte a) s)

/-- Pulls a 16-bit value, low byte first (20_memory.md R34). -/
def pullAddr (s : State) : Addr × State :=
  let l := pull s
  let h := pull l.2
  (addrOfBytes h.1 l.1, h.2)

/-- `SetZN(v)` (10_state.md R18). -/
def setZN (r : Byte) (s : State) : State := { s with p := s.p.setZN r }

/-- Writes the carry flag (10_state.md R16). -/
def setCarry (b : Bool) (s : State) : State := { s with p := { s.p with c := b } }

/-- Writes `A` and recomputes zero and negative from it. -/
def loadA (v : Byte) (s : State) : State := setZN v { s with a := v }

/-- Writes `X` and recomputes zero and negative from it. -/
def loadX (v : Byte) (s : State) : State := setZN v { s with x := v }

/-- Writes `Y` and recomputes zero and negative from it. -/
def loadY (v : Byte) (s : State) : State := setZN v { s with y := v }

/-- The common end of a step that does not override `PC`: advance by the length, then charge the
cycles (40_step_and_addressing.md R90, R91). -/
def finish (len cycles : Nat) (s : State) : State :=
  tick cycles { s with pc := s.pc + BitVec.ofNat 16 len }

/-- The common end of a step that sets `PC` to a target (40_step_and_addressing.md R90, R91). -/
def finishAt (target : Addr) (cycles : Nat) (s : State) : State :=
  tick cycles { s with pc := target }

/-- Taking an exception, shared by BRK, NMI and IRQ: push the return address high byte first,
push the status with Break as given, set `P.I`, load `PC` from the vector (60_exceptions.md R208,
48_system.md R180). `P.D` and the other flags stay (spec decision D21). -/
def takeException (vector ret : Addr) (brk : Bool) (s : State) : State :=
  let s1 := push (s.p.pack brk) (pushAddr ret s)
  let v := read16 vector { s1 with p := { s1.p with i := true } }
  { v.2 with pc := v.1 }

/-- `InterruptEntry(vec)`, one whole step: the return address is `PC`, Break is pushed as 0, and
the entry costs 7 (60_exceptions.md R208). -/
def interruptEntry (vector : Addr) (s : State) : State :=
  tick Config.entryCycles (takeException vector s.pc false s)

/-- Returning from an exception: pull the status (bits 5 and 4 discarded), then `PC`, with no
increment (48_system.md R181, 60_exceptions.md R211). -/
def returnFromException (s : State) : State :=
  let b := pull s
  let v := pullAddr { b.2 with p := Flags.unpack b.1 }
  { v.2 with pc := v.1 }

/-- Power-on over a platform, whose memory, answers, IRQ level and schedule are kept
(70_reset_and_hazards.md R230). A new history of Bus events begins. -/
def powerOn (resetPC : Option Addr) (platform : State) : State :=
  let s0 : State := { platform with
    a := 0x00, x := 0x00, y := 0x00, sp := 0xFD, p := Flags.unpack 0x24,
    nmiPending := false, run := .idle, cyc := 0, bus := [] }
  match resetPC with
  | none =>
    let v := read16 Config.vecRESET s0
    tick Config.resetCycles { v.2 with pc := v.1 }
  | some pc => tick Config.resetCycles { s0 with pc := pc }

/-- One move of the environment (70_reset_and_hazards.md R247). -/
def applyMove (s : State) : EnvMove → State
  | .nmiEdge => { s with nmiPending := true }
  | .irqLevel level => { s with irqLine := level }
  | .poke a v => { s with mem := Memory.write s.mem a.toNat v }

/-- The environment's moves at the present instruction boundary, in order; the schedule goes on to
the next boundary (70_reset_and_hazards.md R240; log entry 5). -/
def openBoundary (s : State) : State :=
  (s.schedule.headD []).foldl applyMove { s with schedule := s.schedule.tail }

end Sys2Proof.Machine
end

