-- ==== Sys2Proof/Machine/Operands.lean ====
section
/-! DEFINITION. The addressing-mode resolver (40_step_and_addressing.md R73 to R88) and the
operand access classes (R89) every meaning is written over. -/

namespace Sys2Proof.Machine

/-- What the resolver reports of a memory form: the effective address and the page-cross
indicator (40_step_and_addressing.md R73). -/
structure Resolved where
  ea    : Addr
  extra : Bool
  deriving DecidableEq, Repr

/-- A base indexed by an unsigned byte; `extra` says that the page changed
(40_step_and_addressing.md R81). -/
def indexed (base : Addr) (index : Byte) : Resolved where
  ea := base + zext16 index
  extra := page base != page (base + zext16 index)

/-- The resolver on the memory forms, one line a rule: R77, R78, R79, R80, R81, R82, R85, R83, R84
of 40_step_and_addressing.md. The operand bytes have been read by the fetch (log entry 8). -/
def resolve : MemForm → State → Resolved × State
  | .zeroPage z, s => (⟨zeroPageAddr z, false⟩, s)
  | .zeroPageX z, s => (⟨zeroPageAddr (z + s.x), false⟩, s)
  | .zeroPageY z, s => (⟨zeroPageAddr (z + s.y), false⟩, s)
  | .absolute a, s => (⟨a, false⟩, s)
  | .absoluteX a, s => (indexed a s.x, s)
  | .absoluteY a, s => (indexed a s.y, s)
  | .absoluteXWrite a, s => ({ indexed a s.x with extra := true }, s)
  | .absoluteYWrite a, s => ({ indexed a s.y with extra := true }, s)
  | .indirect p, s => let r := read16Wrap p s; (⟨r.1, false⟩, r.2)
  | .indexedIndirect z, s => let r := read16ZP (z + s.x) s; (⟨r.1, false⟩, r.2)
  | .indirectIndexed z, s => let r := read16ZP z s; (indexed r.1 s.y, r.2)
  | .indirectIndexedWrite z, s =>
    let r := read16ZP z s
    ({ indexed r.1 s.y with extra := true }, r.2)

/-- The resolver's contract on every form: Implicit and Accumulator have no address (R74, R75);
Immediate and Relative report the address of byte 1 (R76, R86). -/
def resolveForm : AddrForm → State → (Option Addr × Bool) × State
  | .implicit, s => ((none, false), s)
  | .accumulator, s => ((none, false), s)
  | .immediate _, s => ((some (s.pc + 1), false), s)
  | .relative _, s => ((some (s.pc + 1), false), s)
  | .mem m, s => let r := resolve m s; ((some r.1.ea, r.1.extra), r.2)

/-- The modes that honour the page-cross penalty (40_step_and_addressing.md R87); the write
variants report `extra` and never pay it (R88, 90_conflicts.md C1). -/
def paysPageCross : Mode → Bool
  | .absoluteX | .absoluteY | .indirectIndexed => true
  | .implicit | .accumulator | .immediate | .zeroPage | .zeroPageX | .zeroPageY | .relative => false
  | .absolute | .indirect | .indexedIndirect => false
  | .absoluteXWrite | .absoluteYWrite | .indirectIndexedWrite => false

/-- Resolves a memory form and charges the page-cross `Tick(1)` where it applies, after the
pointer reads and before any data access (40_step_and_addressing.md R70, R87, spec decision
D14). -/
def effectiveAddress (m : MemForm) (s : State) : Addr × State :=
  let r := resolve m s
  (r.1.ea, if r.1.extra && paysPageCross m.mode then tick 1 r.2 else r.2)

/-- Where a reading instruction takes its operand: the immediate byte or memory. -/
inductive Source
  | imm (v : Byte)
  | mem (m : MemForm)
  deriving DecidableEq, Repr

/-- The length of an instruction with that source (30_encoding.md R51). -/
def Source.len : Source → Nat
  | .imm _ => Mode.immediate.len
  | .mem m => m.mode.len

/-- The operand of a reading instruction, and the state after its Bus events. The read of an
immediate byte is the fetch's (40_step_and_addressing.md R76; log entry 8). -/
def readOperand : Source → State → Byte × State
  | .imm v, s => (v, s)
  | .mem m, s => let e := effectiveAddress m s; memRead e.1 e.2

/-- Operand class (a), read: one read of the operand, then the effect
(40_step_and_addressing.md R89). -/
def readInstr (src : Source) (act : Byte → State → State) (cycles : Nat) (s : State) : Result :=
  let o := readOperand src s
  .next (finish src.len cycles (act o.1 o.2))

/-- Operand class (b), write: one write of the effective address, which is not read
(40_step_and_addressing.md R89). -/
def writeInstr (m : MemForm) (value : State → Byte) (cycles : Nat) (s : State) : Result :=
  let e := effectiveAddress m s
  .next (finish m.mode.len cycles (memWrite e.1 (value e.2) e.2))

/-- Operand class (c), read-modify-write: one read and one write of the same address, then what
the instruction does with the old and the new byte (40_step_and_addressing.md R89). -/
def rmwInstr (m : MemForm) (new : State → Byte → Byte) (after : Byte → Byte → State → State)
    (cycles : Nat) (s : State) : Result :=
  let e := effectiveAddress m s
  let o := memRead e.1 e.2
  let r := new o.2 o.1
  .next (finish m.mode.len cycles (after o.1 r (memWrite e.1 r o.2)))

/-- Operand class (d), accumulator: operand and result are `A`, with no Bus access
(40_step_and_addressing.md R75, R89). -/
def accInstr (new : State → Byte → Byte) (after : Byte → Byte → State → State)
    (cycles : Nat) (s : State) : Result :=
  let r := new s s.a
  .next (finish Mode.accumulator.len cycles (after s.a r { s with a := r }))

/-- Operand class (e), none: the instruction names its own operands
(40_step_and_addressing.md R74, R89). -/
def impliedInstr (act : State → State) (cycles : Nat) (s : State) : Result :=
  .next (finish Mode.implicit.len cycles (act s))

end Sys2Proof.Machine
end

