-- ==== Sys2Proof/Machine/Arithmetic.lean ====
section
/-! DEFINITION. The arithmetic family ADC, SBC, INC, DEC, INX, INY, DEX, DEY
(42_arithmetic.md R110 to R119). -/

namespace Sys2Proof.Machine

/-- `AddCore(m)`, whatever `P.D` holds (42_arithmetic.md R110, spec decisions D21, D32). -/
def addCore (m : Byte) (s : State) : State :=
  { s with a := addResult s.a m s.p.c, p := s.p.afterAdd s.a m }

/-- `AddCore(M)` (42_arithmetic.md R111). -/
def adcAcc (m : Byte) (s : State) : State := addCore m s

/-- `AddCore(M ^ 0xFF)` (42_arithmetic.md R112). -/
def sbcAcc (m : Byte) (s : State) : State := addCore (m ^^^ 0xFF) s

/-- `(M + 1) mod 256` (42_arithmetic.md R113). -/
def incByte (_ : State) (m : Byte) : Byte := m + 1

/-- `SetZN` of the incremented byte; carry and overflow stay (42_arithmetic.md R113). -/
def incFlags (_ r : Byte) (s : State) : State := setZN r s

/-- `(M - 1) mod 256` (42_arithmetic.md R114). -/
def decByte (_ : State) (m : Byte) : Byte := m - 1

/-- `SetZN` of the decremented byte; carry and overflow stay (42_arithmetic.md R114). -/
def decFlags (_ r : Byte) (s : State) : State := setZN r s

/-- `X <- (X + 1) mod 256; SetZN(X)` (42_arithmetic.md R115). -/
def inxReg (s : State) : State := loadX (s.x + 1) s

/-- `Y <- (Y + 1) mod 256; SetZN(Y)` (42_arithmetic.md R116). -/
def inyReg (s : State) : State := loadY (s.y + 1) s

/-- `X <- (X - 1) mod 256; SetZN(X)` (42_arithmetic.md R117). -/
def dexReg (s : State) : State := loadX (s.x - 1) s

/-- `Y <- (Y - 1) mod 256; SetZN(Y)` (42_arithmetic.md R118). -/
def deyReg (s : State) : State := loadY (s.y - 1) s

/-- `61` `ADC` IndexedIndirect, 6 cycles (R111). -/
def execAdcIzx (z : Byte) (s : State) : Result :=
  readInstr (.mem (.indexedIndirect z)) adcAcc 6 s

/-- `65` `ADC` ZeroPage, 3 cycles (R111). -/
def execAdcZp (z : Byte) (s : State) : Result :=
  readInstr (.mem (.zeroPage z)) adcAcc 3 s

/-- `69` `ADC` Immediate, 2 cycles (R111). -/
def execAdcImm (v : Byte) (s : State) : Result :=
  readInstr (.imm v) adcAcc 2 s

/-- `6D` `ADC` Absolute, 4 cycles (R111). -/
def execAdcAbs (a : Addr) (s : State) : Result :=
  readInstr (.mem (.absolute a)) adcAcc 4 s

/-- `71` `ADC` IndirectIndexed, 5 cycles (R111). -/
def execAdcIzy (z : Byte) (s : State) : Result :=
  readInstr (.mem (.indirectIndexed z)) adcAcc 5 s

/-- `75` `ADC` ZeroPageX, 4 cycles (R111). -/
def execAdcZpx (z : Byte) (s : State) : Result :=
  readInstr (.mem (.zeroPageX z)) adcAcc 4 s

/-- `79` `ADC` AbsoluteY, 4 cycles (R111). -/
def execAdcAby (a : Addr) (s : State) : Result :=
  readInstr (.mem (.absoluteY a)) adcAcc 4 s

/-- `7D` `ADC` AbsoluteX, 4 cycles (R111). -/
def execAdcAbx (a : Addr) (s : State) : Result :=
  readInstr (.mem (.absoluteX a)) adcAcc 4 s

/-- `E1` `SBC` IndexedIndirect, 6 cycles (R112). -/
def execSbcIzx (z : Byte) (s : State) : Result :=
  readInstr (.mem (.indexedIndirect z)) sbcAcc 6 s

/-- `E5` `SBC` ZeroPage, 3 cycles (R112). -/
def execSbcZp (z : Byte) (s : State) : Result :=
  readInstr (.mem (.zeroPage z)) sbcAcc 3 s

/-- `E9` `SBC` Immediate, 2 cycles (R112). -/
def execSbcImm (v : Byte) (s : State) : Result :=
  readInstr (.imm v) sbcAcc 2 s

/-- `ED` `SBC` Absolute, 4 cycles (R112). -/
def execSbcAbs (a : Addr) (s : State) : Result :=
  readInstr (.mem (.absolute a)) sbcAcc 4 s

/-- `F1` `SBC` IndirectIndexed, 5 cycles (R112). -/
def execSbcIzy (z : Byte) (s : State) : Result :=
  readInstr (.mem (.indirectIndexed z)) sbcAcc 5 s

/-- `F5` `SBC` ZeroPageX, 4 cycles (R112). -/
def execSbcZpx (z : Byte) (s : State) : Result :=
  readInstr (.mem (.zeroPageX z)) sbcAcc 4 s

/-- `F9` `SBC` AbsoluteY, 4 cycles (R112). -/
def execSbcAby (a : Addr) (s : State) : Result :=
  readInstr (.mem (.absoluteY a)) sbcAcc 4 s

/-- `FD` `SBC` AbsoluteX, 4 cycles (R112). -/
def execSbcAbx (a : Addr) (s : State) : Result :=
  readInstr (.mem (.absoluteX a)) sbcAcc 4 s

/-- `E6` `INC` ZeroPage, 5 cycles (R113). -/
def execIncZp (z : Byte) (s : State) : Result :=
  rmwInstr (.zeroPage z) incByte incFlags 5 s

/-- `EE` `INC` Absolute, 6 cycles (R113). -/
def execIncAbs (a : Addr) (s : State) : Result :=
  rmwInstr (.absolute a) incByte incFlags 6 s

/-- `F6` `INC` ZeroPageX, 6 cycles (R113). -/
def execIncZpx (z : Byte) (s : State) : Result :=
  rmwInstr (.zeroPageX z) incByte incFlags 6 s

/-- `FE` `INC` AbsoluteXWrite, 7 cycles (R113). -/
def execIncAbxW (a : Addr) (s : State) : Result :=
  rmwInstr (.absoluteXWrite a) incByte incFlags 7 s

/-- `C6` `DEC` ZeroPage, 5 cycles (R114). -/
def execDecZp (z : Byte) (s : State) : Result :=
  rmwInstr (.zeroPage z) decByte decFlags 5 s

/-- `CE` `DEC` Absolute, 6 cycles (R114). -/
def execDecAbs (a : Addr) (s : State) : Result :=
  rmwInstr (.absolute a) decByte decFlags 6 s

/-- `D6` `DEC` ZeroPageX, 6 cycles (R114). -/
def execDecZpx (z : Byte) (s : State) : Result :=
  rmwInstr (.zeroPageX z) decByte decFlags 6 s

/-- `DE` `DEC` AbsoluteXWrite, 7 cycles (R114). -/
def execDecAbxW (a : Addr) (s : State) : Result :=
  rmwInstr (.absoluteXWrite a) decByte decFlags 7 s

/-- `E8` `INX` Implicit, 2 cycles (R115). -/
def execInx (s : State) : Result :=
  impliedInstr inxReg 2 s

/-- `C8` `INY` Implicit, 2 cycles (R116). -/
def execIny (s : State) : Result :=
  impliedInstr inyReg 2 s

/-- `CA` `DEX` Implicit, 2 cycles (R117). -/
def execDex (s : State) : Result :=
  impliedInstr dexReg 2 s

/-- `88` `DEY` Implicit, 2 cycles (R118). -/
def execDey (s : State) : Result :=
  impliedInstr deyReg 2 s

end Sys2Proof.Machine
end

