-- ==== Sys2Proof/Machine/Branch.lean ====
section
/-! DEFINITION. The branch, jump and subroutine family BCC, BCS, BEQ, BNE, BMI, BPL, BVC, BVS,
JMP, JSR, RTS (46_branch_jump.md R150 to R161). -/

namespace Sys2Proof.Machine

/-- The post-instruction program counter of a branch (46_branch_jump.md R150). -/
def branchNext (pc : Addr) : Addr := pc + 2

/-- The target of a branch (30_encoding.md R54, 46_branch_jump.md R150). -/
def branchTarget (pc : Addr) (d : Byte) : Addr := branchNext pc + sext16 d

/-- The penalty of a taken branch: 1, and 1 more for a target in another page than the next
instruction (46_branch_jump.md R150, spec decision D16). -/
def branchPenalty (pc : Addr) (d : Byte) : Nat :=
  if page (branchTarget pc d) = page (branchNext pc) then 1 else 2

/-- `BranchCore(cond)` (46_branch_jump.md R150). The displacement byte has been read by the fetch,
taken or not (log entry 8). -/
def branchInstr (cond : Bool) (d : Byte) (cycles : Nat) (s : State) : Result :=
  if cond then .next (finishAt (branchTarget s.pc d) (cycles + branchPenalty s.pc d) s)
  else .next (finish Mode.relative.len cycles s)

/-- `pc <- EA`, with no data access (46_branch_jump.md R159). -/
def jumpInstr (m : MemForm) (cycles : Nat) (s : State) : Result :=
  let e := effectiveAddress m s
  .next (finishAt e.1 cycles e.2)

/-- Push the address of the last byte of the instruction, then `pc <- EA`
(46_branch_jump.md R160). -/
def jsrInstr (m : MemForm) (cycles : Nat) (s : State) : Result :=
  let e := effectiveAddress m s
  .next (finishAt e.1 cycles (pushAddr (s.pc + 2) e.2))

/-- Pull the address and continue one past it (46_branch_jump.md R161). -/
def rtsInstr (cycles : Nat) (s : State) : Result :=
  let v := pullAddr s
  .next (finishAt (v.1 + 1) cycles v.2)

/-- `90` `BCC` Relative, 2 cycles (R151). -/
def execBccRel (d : Byte) (s : State) : Result :=
  branchInstr (!s.p.c) d 2 s

/-- `B0` `BCS` Relative, 2 cycles (R152). -/
def execBcsRel (d : Byte) (s : State) : Result :=
  branchInstr (s.p.c) d 2 s

/-- `F0` `BEQ` Relative, 2 cycles (R153). -/
def execBeqRel (d : Byte) (s : State) : Result :=
  branchInstr (s.p.z) d 2 s

/-- `D0` `BNE` Relative, 2 cycles (R154). -/
def execBneRel (d : Byte) (s : State) : Result :=
  branchInstr (!s.p.z) d 2 s

/-- `30` `BMI` Relative, 2 cycles (R155). -/
def execBmiRel (d : Byte) (s : State) : Result :=
  branchInstr (s.p.n) d 2 s

/-- `10` `BPL` Relative, 2 cycles (R156). -/
def execBplRel (d : Byte) (s : State) : Result :=
  branchInstr (!s.p.n) d 2 s

/-- `50` `BVC` Relative, 2 cycles (R157). -/
def execBvcRel (d : Byte) (s : State) : Result :=
  branchInstr (!s.p.v) d 2 s

/-- `70` `BVS` Relative, 2 cycles (R158). -/
def execBvsRel (d : Byte) (s : State) : Result :=
  branchInstr (s.p.v) d 2 s

/-- `4C` `JMP` Absolute, 3 cycles (R159). -/
def execJmpAbs (a : Addr) (s : State) : Result :=
  jumpInstr (.absolute a) 3 s

/-- `6C` `JMP` Indirect, 5 cycles (R159). -/
def execJmpInd (p : Addr) (s : State) : Result :=
  jumpInstr (.indirect p) 5 s

/-- `20` `JSR` Absolute, 6 cycles (R160). -/
def execJsrAbs (a : Addr) (s : State) : Result :=
  jsrInstr (.absolute a) 6 s

/-- `60` `RTS` Implicit, 6 cycles (R161). -/
def execRts (s : State) : Result :=
  rtsInstr 6 s

end Sys2Proof.Machine
end

