-- ==== Sys2Proof/Machine/Compare.lean ====
section
/-! DEFINITION. The compare family CMP, CPX, CPY (45_compare.md R145 to R148). -/

namespace Sys2Proof.Machine

/-- `CompareCore(reg, m)`: flags only (45_compare.md R145). -/
def compareCore (reg m : Byte) (s : State) : State := { s with p := s.p.afterCompare reg m }

/-- `CompareCore(A, M)` (45_compare.md R146). -/
def cmpA (m : Byte) (s : State) : State := compareCore s.a m s

/-- `CompareCore(X, M)` (45_compare.md R147). -/
def cmpX (m : Byte) (s : State) : State := compareCore s.x m s

/-- `CompareCore(Y, M)` (45_compare.md R148). -/
def cmpY (m : Byte) (s : State) : State := compareCore s.y m s

/-- `C1` `CMP` IndexedIndirect, 6 cycles (R146). -/
def execCmpIzx (z : Byte) (s : State) : Result :=
  readInstr (.mem (.indexedIndirect z)) cmpA 6 s

/-- `C5` `CMP` ZeroPage, 3 cycles (R146). -/
def execCmpZp (z : Byte) (s : State) : Result :=
  readInstr (.mem (.zeroPage z)) cmpA 3 s

/-- `C9` `CMP` Immediate, 2 cycles (R146). -/
def execCmpImm (v : Byte) (s : State) : Result :=
  readInstr (.imm v) cmpA 2 s

/-- `CD` `CMP` Absolute, 4 cycles (R146). -/
def execCmpAbs (a : Addr) (s : State) : Result :=
  readInstr (.mem (.absolute a)) cmpA 4 s

/-- `D1` `CMP` IndirectIndexed, 5 cycles (R146). -/
def execCmpIzy (z : Byte) (s : State) : Result :=
  readInstr (.mem (.indirectIndexed z)) cmpA 5 s

/-- `D5` `CMP` ZeroPageX, 4 cycles (R146). -/
def execCmpZpx (z : Byte) (s : State) : Result :=
  readInstr (.mem (.zeroPageX z)) cmpA 4 s

/-- `D9` `CMP` AbsoluteY, 4 cycles (R146). -/
def execCmpAby (a : Addr) (s : State) : Result :=
  readInstr (.mem (.absoluteY a)) cmpA 4 s

/-- `DD` `CMP` AbsoluteX, 4 cycles (R146). -/
def execCmpAbx (a : Addr) (s : State) : Result :=
  readInstr (.mem (.absoluteX a)) cmpA 4 s

/-- `E0` `CPX` Immediate, 2 cycles (R147). -/
def execCpxImm (v : Byte) (s : State) : Result :=
  readInstr (.imm v) cmpX 2 s

/-- `E4` `CPX` ZeroPage, 3 cycles (R147). -/
def execCpxZp (z : Byte) (s : State) : Result :=
  readInstr (.mem (.zeroPage z)) cmpX 3 s

/-- `EC` `CPX` Absolute, 4 cycles (R147). -/
def execCpxAbs (a : Addr) (s : State) : Result :=
  readInstr (.mem (.absolute a)) cmpX 4 s

/-- `C0` `CPY` Immediate, 2 cycles (R148). -/
def execCpyImm (v : Byte) (s : State) : Result :=
  readInstr (.imm v) cmpY 2 s

/-- `C4` `CPY` ZeroPage, 3 cycles (R148). -/
def execCpyZp (z : Byte) (s : State) : Result :=
  readInstr (.mem (.zeroPage z)) cmpY 3 s

/-- `CC` `CPY` Absolute, 4 cycles (R148). -/
def execCpyAbs (a : Addr) (s : State) : Result :=
  readInstr (.mem (.absolute a)) cmpY 4 s

end Sys2Proof.Machine
end

