-- ==== Sys2Proof/Machine/LoadStore.lean ====
section
/-! DEFINITION. The load, store and transfer family LDA, LDX, LDY, STA, STX, STY, TAX, TAY, TXA,
TYA, TSX, TXS (44_load_store_transfer.md R130 to R141). -/

namespace Sys2Proof.Machine

/-- `X <- A; SetZN(X)` (44_load_store_transfer.md R136). -/
def taxReg (s : State) : State := loadX s.a s

/-- `Y <- A; SetZN(Y)` (44_load_store_transfer.md R137). -/
def tayReg (s : State) : State := loadY s.a s

/-- `A <- X; SetZN(A)` (44_load_store_transfer.md R138). -/
def txaReg (s : State) : State := loadA s.x s

/-- `A <- Y; SetZN(A)` (44_load_store_transfer.md R139). -/
def tyaReg (s : State) : State := loadA s.y s

/-- `X <- SP; SetZN(X)` (44_load_store_transfer.md R140). -/
def tsxReg (s : State) : State := loadX s.sp s

/-- `SP <- X`, no flag written (44_load_store_transfer.md R141). -/
def txsReg (s : State) : State := { s with sp := s.x }

/-- `A1` `LDA` IndexedIndirect, 6 cycles (R130). -/
def execLdaIzx (z : Byte) (s : State) : Result :=
  readInstr (.mem (.indexedIndirect z)) loadA 6 s

/-- `A5` `LDA` ZeroPage, 3 cycles (R130). -/
def execLdaZp (z : Byte) (s : State) : Result :=
  readInstr (.mem (.zeroPage z)) loadA 3 s

/-- `A9` `LDA` Immediate, 2 cycles (R130). -/
def execLdaImm (v : Byte) (s : State) : Result :=
  readInstr (.imm v) loadA 2 s

/-- `AD` `LDA` Absolute, 4 cycles (R130). -/
def execLdaAbs (a : Addr) (s : State) : Result :=
  readInstr (.mem (.absolute a)) loadA 4 s

/-- `B1` `LDA` IndirectIndexed, 5 cycles (R130). -/
def execLdaIzy (z : Byte) (s : State) : Result :=
  readInstr (.mem (.indirectIndexed z)) loadA 5 s

/-- `B5` `LDA` ZeroPageX, 4 cycles (R130). -/
def execLdaZpx (z : Byte) (s : State) : Result :=
  readInstr (.mem (.zeroPageX z)) loadA 4 s

/-- `B9` `LDA` AbsoluteY, 4 cycles (R130). -/
def execLdaAby (a : Addr) (s : State) : Result :=
  readInstr (.mem (.absoluteY a)) loadA 4 s

/-- `BD` `LDA` AbsoluteX, 4 cycles (R130). -/
def execLdaAbx (a : Addr) (s : State) : Result :=
  readInstr (.mem (.absoluteX a)) loadA 4 s

/-- `A2` `LDX` Immediate, 2 cycles (R131). -/
def execLdxImm (v : Byte) (s : State) : Result :=
  readInstr (.imm v) loadX 2 s

/-- `A6` `LDX` ZeroPage, 3 cycles (R131). -/
def execLdxZp (z : Byte) (s : State) : Result :=
  readInstr (.mem (.zeroPage z)) loadX 3 s

/-- `AE` `LDX` Absolute, 4 cycles (R131). -/
def execLdxAbs (a : Addr) (s : State) : Result :=
  readInstr (.mem (.absolute a)) loadX 4 s

/-- `B6` `LDX` ZeroPageY, 4 cycles (R131). -/
def execLdxZpy (z : Byte) (s : State) : Result :=
  readInstr (.mem (.zeroPageY z)) loadX 4 s

/-- `BE` `LDX` AbsoluteY, 4 cycles (R131). -/
def execLdxAby (a : Addr) (s : State) : Result :=
  readInstr (.mem (.absoluteY a)) loadX 4 s

/-- `A0` `LDY` Immediate, 2 cycles (R132). -/
def execLdyImm (v : Byte) (s : State) : Result :=
  readInstr (.imm v) loadY 2 s

/-- `A4` `LDY` ZeroPage, 3 cycles (R132). -/
def execLdyZp (z : Byte) (s : State) : Result :=
  readInstr (.mem (.zeroPage z)) loadY 3 s

/-- `AC` `LDY` Absolute, 4 cycles (R132). -/
def execLdyAbs (a : Addr) (s : State) : Result :=
  readInstr (.mem (.absolute a)) loadY 4 s

/-- `B4` `LDY` ZeroPageX, 4 cycles (R132). -/
def execLdyZpx (z : Byte) (s : State) : Result :=
  readInstr (.mem (.zeroPageX z)) loadY 4 s

/-- `BC` `LDY` AbsoluteX, 4 cycles (R132). -/
def execLdyAbx (a : Addr) (s : State) : Result :=
  readInstr (.mem (.absoluteX a)) loadY 4 s

/-- `81` `STA` IndexedIndirect, 6 cycles (R133). -/
def execStaIzx (z : Byte) (s : State) : Result :=
  writeInstr (.indexedIndirect z) (·.a) 6 s

/-- `85` `STA` ZeroPage, 3 cycles (R133). -/
def execStaZp (z : Byte) (s : State) : Result :=
  writeInstr (.zeroPage z) (·.a) 3 s

/-- `8D` `STA` Absolute, 4 cycles (R133). -/
def execStaAbs (a : Addr) (s : State) : Result :=
  writeInstr (.absolute a) (·.a) 4 s

/-- `91` `STA` IndirectIndexedWrite, 6 cycles (R133). -/
def execStaIzyW (z : Byte) (s : State) : Result :=
  writeInstr (.indirectIndexedWrite z) (·.a) 6 s

/-- `95` `STA` ZeroPageX, 4 cycles (R133). -/
def execStaZpx (z : Byte) (s : State) : Result :=
  writeInstr (.zeroPageX z) (·.a) 4 s

/-- `99` `STA` AbsoluteYWrite, 5 cycles (R133). -/
def execStaAbyW (a : Addr) (s : State) : Result :=
  writeInstr (.absoluteYWrite a) (·.a) 5 s

/-- `9D` `STA` AbsoluteXWrite, 5 cycles (R133). -/
def execStaAbxW (a : Addr) (s : State) : Result :=
  writeInstr (.absoluteXWrite a) (·.a) 5 s

/-- `86` `STX` ZeroPage, 3 cycles (R134). -/
def execStxZp (z : Byte) (s : State) : Result :=
  writeInstr (.zeroPage z) (·.x) 3 s

/-- `8E` `STX` Absolute, 4 cycles (R134). -/
def execStxAbs (a : Addr) (s : State) : Result :=
  writeInstr (.absolute a) (·.x) 4 s

/-- `96` `STX` ZeroPageY, 4 cycles (R134). -/
def execStxZpy (z : Byte) (s : State) : Result :=
  writeInstr (.zeroPageY z) (·.x) 4 s

/-- `84` `STY` ZeroPage, 3 cycles (R135). -/
def execStyZp (z : Byte) (s : State) : Result :=
  writeInstr (.zeroPage z) (·.y) 3 s

/-- `8C` `STY` Absolute, 4 cycles (R135). -/
def execStyAbs (a : Addr) (s : State) : Result :=
  writeInstr (.absolute a) (·.y) 4 s

/-- `94` `STY` ZeroPageX, 4 cycles (R135). -/
def execStyZpx (z : Byte) (s : State) : Result :=
  writeInstr (.zeroPageX z) (·.y) 4 s

/-- `AA` `TAX` Implicit, 2 cycles (R136). -/
def execTax (s : State) : Result :=
  impliedInstr taxReg 2 s

/-- `A8` `TAY` Implicit, 2 cycles (R137). -/
def execTay (s : State) : Result :=
  impliedInstr tayReg 2 s

/-- `8A` `TXA` Implicit, 2 cycles (R138). -/
def execTxa (s : State) : Result :=
  impliedInstr txaReg 2 s

/-- `98` `TYA` Implicit, 2 cycles (R139). -/
def execTya (s : State) : Result :=
  impliedInstr tyaReg 2 s

/-- `BA` `TSX` Implicit, 2 cycles (R140). -/
def execTsx (s : State) : Result :=
  impliedInstr tsxReg 2 s

/-- `9A` `TXS` Implicit, 2 cycles (R141). -/
def execTxs (s : State) : Result :=
  impliedInstr txsReg 2 s

end Sys2Proof.Machine
end

