-- ==== Sys2Proof/Machine/Logical.lean ====
section
/-! DEFINITION. The logical family AND, ORA, EOR, BIT (41_logical.md R100 to R104). -/

namespace Sys2Proof.Machine

/-- `A <- A & M; SetZN(A)` (41_logical.md R101). -/
def andAcc (m : Byte) (s : State) : State := loadA (s.a &&& m) s

/-- `A <- A | M; SetZN(A)` (41_logical.md R102). -/
def oraAcc (m : Byte) (s : State) : State := loadA (s.a ||| m) s

/-- `A <- A ^ M; SetZN(A)` (41_logical.md R103). -/
def eorAcc (m : Byte) (s : State) : State := loadA (s.a ^^^ m) s

/-- Zero from `A & M`, negative and overflow from `M`; `A` stays (41_logical.md R104). -/
def bitTest (m : Byte) (s : State) : State := { s with p := s.p.afterBit s.a m }

/-- `21` `AND` IndexedIndirect, 6 cycles (R101). -/
def execAndIzx (z : Byte) (s : State) : Result :=
  readInstr (.mem (.indexedIndirect z)) andAcc 6 s

/-- `25` `AND` ZeroPage, 3 cycles (R101). -/
def execAndZp (z : Byte) (s : State) : Result :=
  readInstr (.mem (.zeroPage z)) andAcc 3 s

/-- `29` `AND` Immediate, 2 cycles (R101). -/
def execAndImm (v : Byte) (s : State) : Result :=
  readInstr (.imm v) andAcc 2 s

/-- `2D` `AND` Absolute, 4 cycles (R101). -/
def execAndAbs (a : Addr) (s : State) : Result :=
  readInstr (.mem (.absolute a)) andAcc 4 s

/-- `31` `AND` IndirectIndexed, 5 cycles (R101). -/
def execAndIzy (z : Byte) (s : State) : Result :=
  readInstr (.mem (.indirectIndexed z)) andAcc 5 s

/-- `35` `AND` ZeroPageX, 4 cycles (R101). -/
def execAndZpx (z : Byte) (s : State) : Result :=
  readInstr (.mem (.zeroPageX z)) andAcc 4 s

/-- `39` `AND` AbsoluteY, 4 cycles (R101). -/
def execAndAby (a : Addr) (s : State) : Result :=
  readInstr (.mem (.absoluteY a)) andAcc 4 s

/-- `3D` `AND` AbsoluteX, 4 cycles (R101). -/
def execAndAbx (a : Addr) (s : State) : Result :=
  readInstr (.mem (.absoluteX a)) andAcc 4 s

/-- `01` `ORA` IndexedIndirect, 6 cycles (R102). -/
def execOraIzx (z : Byte) (s : State) : Result :=
  readInstr (.mem (.indexedIndirect z)) oraAcc 6 s

/-- `05` `ORA` ZeroPage, 3 cycles (R102). -/
def execOraZp (z : Byte) (s : State) : Result :=
  readInstr (.mem (.zeroPage z)) oraAcc 3 s

/-- `09` `ORA` Immediate, 2 cycles (R102). -/
def execOraImm (v : Byte) (s : State) : Result :=
  readInstr (.imm v) oraAcc 2 s

/-- `0D` `ORA` Absolute, 4 cycles (R102). -/
def execOraAbs (a : Addr) (s : State) : Result :=
  readInstr (.mem (.absolute a)) oraAcc 4 s

/-- `11` `ORA` IndirectIndexed, 5 cycles (R102). -/
def execOraIzy (z : Byte) (s : State) : Result :=
  readInstr (.mem (.indirectIndexed z)) oraAcc 5 s

/-- `15` `ORA` ZeroPageX, 4 cycles (R102). -/
def execOraZpx (z : Byte) (s : State) : Result :=
  readInstr (.mem (.zeroPageX z)) oraAcc 4 s

/-- `19` `ORA` AbsoluteY, 4 cycles (R102). -/
def execOraAby (a : Addr) (s : State) : Result :=
  readInstr (.mem (.absoluteY a)) oraAcc 4 s

/-- `1D` `ORA` AbsoluteX, 4 cycles (R102). -/
def execOraAbx (a : Addr) (s : State) : Result :=
  readInstr (.mem (.absoluteX a)) oraAcc 4 s

/-- `41` `EOR` IndexedIndirect, 6 cycles (R103). -/
def execEorIzx (z : Byte) (s : State) : Result :=
  readInstr (.mem (.indexedIndirect z)) eorAcc 6 s

/-- `45` `EOR` ZeroPage, 3 cycles (R103). -/
def execEorZp (z : Byte) (s : State) : Result :=
  readInstr (.mem (.zeroPage z)) eorAcc 3 s

/-- `49` `EOR` Immediate, 2 cycles (R103). -/
def execEorImm (v : Byte) (s : State) : Result :=
  readInstr (.imm v) eorAcc 2 s

/-- `4D` `EOR` Absolute, 4 cycles (R103). -/
def execEorAbs (a : Addr) (s : State) : Result :=
  readInstr (.mem (.absolute a)) eorAcc 4 s

/-- `51` `EOR` IndirectIndexed, 5 cycles (R103). -/
def execEorIzy (z : Byte) (s : State) : Result :=
  readInstr (.mem (.indirectIndexed z)) eorAcc 5 s

/-- `55` `EOR` ZeroPageX, 4 cycles (R103). -/
def execEorZpx (z : Byte) (s : State) : Result :=
  readInstr (.mem (.zeroPageX z)) eorAcc 4 s

/-- `59` `EOR` AbsoluteY, 4 cycles (R103). -/
def execEorAby (a : Addr) (s : State) : Result :=
  readInstr (.mem (.absoluteY a)) eorAcc 4 s

/-- `5D` `EOR` AbsoluteX, 4 cycles (R103). -/
def execEorAbx (a : Addr) (s : State) : Result :=
  readInstr (.mem (.absoluteX a)) eorAcc 4 s

/-- `24` `BIT` ZeroPage, 3 cycles (R104). -/
def execBitZp (z : Byte) (s : State) : Result :=
  readInstr (.mem (.zeroPage z)) bitTest 3 s

/-- `2C` `BIT` Absolute, 4 cycles (R104). -/
def execBitAbs (a : Addr) (s : State) : Result :=
  readInstr (.mem (.absolute a)) bitTest 4 s

end Sys2Proof.Machine
end

