-- ==== Sys2Proof/Machine/Shift.lean ====
section
/-! DEFINITION. The shift and rotate family ASL, LSR, ROL, ROR (43_shift_rotate.md R120 to
R124). Each has the byte it makes and the flags it leaves, for `A` and memory alike. -/

namespace Sys2Proof.Machine

/-- `(v << 1) mod 256` (43_shift_rotate.md R121). -/
def aslByte (_ : State) (v : Byte) : Byte := v <<< 1

/-- Carry is bit 7 of the old byte (43_shift_rotate.md R121). -/
def aslFlags (v r : Byte) (s : State) : State := setZN r (setCarry v[7] s)

/-- `v >> 1` (43_shift_rotate.md R122). -/
def lsrByte (_ : State) (v : Byte) : Byte := v >>> 1

/-- Carry is bit 0 of the old byte (43_shift_rotate.md R122). -/
def lsrFlags (v r : Byte) (s : State) : State := setZN r (setCarry v[0] s)

/-- `((v << 1) mod 256) | c`, the old carry entering bit 0 (43_shift_rotate.md R123). -/
def rolByte (s : State) (v : Byte) : Byte := (v <<< 1) ||| flagByte s.p.c

/-- Carry is bit 7 of the old byte (43_shift_rotate.md R123). -/
def rolFlags (v r : Byte) (s : State) : State := setZN r (setCarry v[7] s)

/-- `(v >> 1) | (c << 7)`, the old carry entering bit 7 (43_shift_rotate.md R124). -/
def rorByte (s : State) (v : Byte) : Byte := (v >>> 1) ||| (flagByte s.p.c <<< 7)

/-- Carry is bit 0 of the old byte (43_shift_rotate.md R124). -/
def rorFlags (v r : Byte) (s : State) : State := setZN r (setCarry v[0] s)

/-- `06` `ASL` ZeroPage, 5 cycles (R121). -/
def execAslZp (z : Byte) (s : State) : Result :=
  rmwInstr (.zeroPage z) aslByte aslFlags 5 s

/-- `0A` `ASL` Accumulator, 2 cycles (R121). -/
def execAslAcc (s : State) : Result :=
  accInstr aslByte aslFlags 2 s

/-- `0E` `ASL` Absolute, 6 cycles (R121). -/
def execAslAbs (a : Addr) (s : State) : Result :=
  rmwInstr (.absolute a) aslByte aslFlags 6 s

/-- `16` `ASL` ZeroPageX, 6 cycles (R121). -/
def execAslZpx (z : Byte) (s : State) : Result :=
  rmwInstr (.zeroPageX z) aslByte aslFlags 6 s

/-- `1E` `ASL` AbsoluteXWrite, 7 cycles (R121). -/
def execAslAbxW (a : Addr) (s : State) : Result :=
  rmwInstr (.absoluteXWrite a) aslByte aslFlags 7 s

/-- `46` `LSR` ZeroPage, 5 cycles (R122). -/
def execLsrZp (z : Byte) (s : State) : Result :=
  rmwInstr (.zeroPage z) lsrByte lsrFlags 5 s

/-- `4A` `LSR` Accumulator, 2 cycles (R122). -/
def execLsrAcc (s : State) : Result :=
  accInstr lsrByte lsrFlags 2 s

/-- `4E` `LSR` Absolute, 6 cycles (R122). -/
def execLsrAbs (a : Addr) (s : State) : Result :=
  rmwInstr (.absolute a) lsrByte lsrFlags 6 s

/-- `56` `LSR` ZeroPageX, 6 cycles (R122). -/
def execLsrZpx (z : Byte) (s : State) : Result :=
  rmwInstr (.zeroPageX z) lsrByte lsrFlags 6 s

/-- `5E` `LSR` AbsoluteXWrite, 7 cycles (R122). -/
def execLsrAbxW (a : Addr) (s : State) : Result :=
  rmwInstr (.absoluteXWrite a) lsrByte lsrFlags 7 s

/-- `26` `ROL` ZeroPage, 5 cycles (R123). -/
def execRolZp (z : Byte) (s : State) : Result :=
  rmwInstr (.zeroPage z) rolByte rolFlags 5 s

/-- `2A` `ROL` Accumulator, 2 cycles (R123). -/
def execRolAcc (s : State) : Result :=
  accInstr rolByte rolFlags 2 s

/-- `2E` `ROL` Absolute, 6 cycles (R123). -/
def execRolAbs (a : Addr) (s : State) : Result :=
  rmwInstr (.absolute a) rolByte rolFlags 6 s

/-- `36` `ROL` ZeroPageX, 6 cycles (R123). -/
def execRolZpx (z : Byte) (s : State) : Result :=
  rmwInstr (.zeroPageX z) rolByte rolFlags 6 s

/-- `3E` `ROL` AbsoluteXWrite, 7 cycles (R123). -/
def execRolAbxW (a : Addr) (s : State) : Result :=
  rmwInstr (.absoluteXWrite a) rolByte rolFlags 7 s

/-- `66` `ROR` ZeroPage, 5 cycles (R124). -/
def execRorZp (z : Byte) (s : State) : Result :=
  rmwInstr (.zeroPage z) rorByte rorFlags 5 s

/-- `6A` `ROR` Accumulator, 2 cycles (R124). -/
def execRorAcc (s : State) : Result :=
  accInstr rorByte rorFlags 2 s

/-- `6E` `ROR` Absolute, 6 cycles (R124). -/
def execRorAbs (a : Addr) (s : State) : Result :=
  rmwInstr (.absolute a) rorByte rorFlags 6 s

/-- `76` `ROR` ZeroPageX, 6 cycles (R124). -/
def execRorZpx (z : Byte) (s : State) : Result :=
  rmwInstr (.zeroPageX z) rorByte rorFlags 6 s

/-- `7E` `ROR` AbsoluteXWrite, 7 cycles (R124). -/
def execRorAbxW (a : Addr) (s : State) : Result :=
  rmwInstr (.absoluteXWrite a) rorByte rorFlags 7 s

end Sys2Proof.Machine
end

