-- ==== Sys2Proof/Machine/StackFlag.lean ====
section
/-! DEFINITION. The stack and flag family PHA, PHP, PLA, PLP, CLC, SEC, CLI, SEI, CLD, SED, CLV
(47_stack_and_flag.md R165 to R175). -/

namespace Sys2Proof.Machine

/-- `Push(A)` (47_stack_and_flag.md R165). -/
def pushA (s : State) : State := push s.a s

/-- `Push(PackP(1))` (47_stack_and_flag.md R166). -/
def pushP (s : State) : State := push (s.p.pack true) s

/-- `A <- Pull(); SetZN(A)` (47_stack_and_flag.md R167). -/
def pullA (s : State) : State :=
  let b := pull s
  loadA b.1 b.2

/-- `UnpackP(Pull())` (47_stack_and_flag.md R168). -/
def pullP (s : State) : State :=
  let b := pull s
  { b.2 with p := Flags.unpack b.1 }

/-- `P.C <- 0` (47_stack_and_flag.md R169). -/
def clcFlag (s : State) : State := setCarry false s

/-- `P.C <- 1` (47_stack_and_flag.md R170). -/
def secFlag (s : State) : State := setCarry true s

/-- `P.I <- 0` (47_stack_and_flag.md R171). -/
def cliFlag (s : State) : State := { s with p := { s.p with i := false } }

/-- `P.I <- 1` (47_stack_and_flag.md R172). -/
def seiFlag (s : State) : State := { s with p := { s.p with i := true } }

/-- `P.D <- 0` (47_stack_and_flag.md R173). -/
def cldFlag (s : State) : State := { s with p := { s.p with d := false } }

/-- `P.D <- 1` (47_stack_and_flag.md R174). -/
def sedFlag (s : State) : State := { s with p := { s.p with d := true } }

/-- `P.V <- 0` (47_stack_and_flag.md R175). -/
def clvFlag (s : State) : State := { s with p := { s.p with v := false } }

/-- `48` `PHA` Implicit, 3 cycles (R165). -/
def execPha (s : State) : Result :=
  impliedInstr pushA 3 s

/-- `08` `PHP` Implicit, 3 cycles (R166). -/
def execPhp (s : State) : Result :=
  impliedInstr pushP 3 s

/-- `68` `PLA` Implicit, 4 cycles (R167). -/
def execPla (s : State) : Result :=
  impliedInstr pullA 4 s

/-- `28` `PLP` Implicit, 4 cycles (R168). -/
def execPlp (s : State) : Result :=
  impliedInstr pullP 4 s

/-- `18` `CLC` Implicit, 2 cycles (R169). -/
def execClc (s : State) : Result :=
  impliedInstr clcFlag 2 s

/-- `38` `SEC` Implicit, 2 cycles (R170). -/
def execSec (s : State) : Result :=
  impliedInstr secFlag 2 s

/-- `58` `CLI` Implicit, 2 cycles (R171). -/
def execCli (s : State) : Result :=
  impliedInstr cliFlag 2 s

/-- `78` `SEI` Implicit, 2 cycles (R172). -/
def execSei (s : State) : Result :=
  impliedInstr seiFlag 2 s

/-- `D8` `CLD` Implicit, 2 cycles (R173). -/
def execCld (s : State) : Result :=
  impliedInstr cldFlag 2 s

/-- `F8` `SED` Implicit, 2 cycles (R174). -/
def execSed (s : State) : Result :=
  impliedInstr sedFlag 2 s

/-- `B8` `CLV` Implicit, 2 cycles (R175). -/
def execClv (s : State) : Result :=
  impliedInstr clvFlag 2 s

end Sys2Proof.Machine
end

