-- ==== Sys2Proof/Machine/System.lean ====
section
/-! DEFINITION. The system family BRK, RTI, NOP (48_system.md R180 to R182). -/

namespace Sys2Proof.Machine

/-- The software interrupt: an exception entry with return address `pc0 + 2` and Break pushed as 1
(48_system.md R180, spec decisions D4, D18). -/
def brkInstr (cycles : Nat) (s : State) : Result :=
  .next (tick cycles (takeException Config.vecIRQ (s.pc + 2) true s))

/-- The return from an exception (48_system.md R181). -/
def rtiInstr (cycles : Nat) (s : State) : Result :=
  .next (tick cycles (returnFromException s))

/-- Nothing: only the common step advances `PC` and `cyc` (48_system.md R182). -/
def noEffect (s : State) : State := s

/-- `00` `BRK` Implicit, 7 cycles (R180). -/
def execBrk (s : State) : Result :=
  brkInstr 7 s

/-- `40` `RTI` Implicit, 6 cycles (R181). -/
def execRti (s : State) : Result :=
  rtiInstr 6 s

/-- `EA` `NOP` Implicit, 2 cycles (R182). -/
def execNop (s : State) : Result :=
  impliedInstr noEffect 2 s

end Sys2Proof.Machine
end

