-- ==== Sys2Proof/Machine/Undocumented.lean ====
section
/-! DEFINITION. The undocumented family *NOP, *LAX, *SAX, *SBC, *DCP, *ISB, *SLO, *RLA, *SRE,
*RRA (49_undocumented.md R185 to R195). -/

namespace Sys2Proof.Machine

/-- The operand is read and ignored (49_undocumented.md R186, spec decision D17). -/
def discard (_ : Byte) (s : State) : State := s

/-- `A <- M; X <- M; SetZN(M)` (49_undocumented.md R187). -/
def loadAX (m : Byte) (s : State) : State := setZN m { s with a := m, x := m }

/-- `A & X` (49_undocumented.md R188). -/
def saxByte (s : State) : Byte := s.a &&& s.x

/-- `CompareCore(A, r)` with the decremented byte (49_undocumented.md R190). -/
def dcpAfter (_ r : Byte) (s : State) : State := cmpA r s

/-- `AddCore(r ^ 0xFF)` with the incremented byte (49_undocumented.md R191). -/
def isbAfter (_ r : Byte) (s : State) : State := sbcAcc r s

/-- Carry is bit 7 of the old byte; `A <- A | r; SetZN(A)` (49_undocumented.md R192). -/
def sloAfter (v r : Byte) (s : State) : State := loadA (s.a ||| r) (setCarry v[7] s)

/-- Carry is bit 7 of the old byte; `A <- A & r; SetZN(A)` (49_undocumented.md R193). -/
def rlaAfter (v r : Byte) (s : State) : State := loadA (s.a &&& r) (setCarry v[7] s)

/-- Carry is bit 0 of the old byte; `A <- A ^ r; SetZN(A)` (49_undocumented.md R194). -/
def sreAfter (v r : Byte) (s : State) : State := loadA (s.a ^^^ r) (setCarry v[0] s)

/-- Carry is bit 0 of the old byte, and the addition consumes it (49_undocumented.md R195). -/
def rraAfter (v r : Byte) (s : State) : State := adcAcc r (setCarry v[0] s)

/-- `04` `*NOP` ZeroPage, 3 cycles (R186). -/
def execUNopZp04 (z : Byte) (s : State) : Result :=
  readInstr (.mem (.zeroPage z)) discard 3 s

/-- `0C` `*NOP` Absolute, 4 cycles (R186). -/
def execUNopAbs0C (a : Addr) (s : State) : Result :=
  readInstr (.mem (.absolute a)) discard 4 s

/-- `14` `*NOP` ZeroPageX, 4 cycles (R186). -/
def execUNopZpx14 (z : Byte) (s : State) : Result :=
  readInstr (.mem (.zeroPageX z)) discard 4 s

/-- `1A` `*NOP` Implicit, 2 cycles (R186). -/
def execUNopImp1A (s : State) : Result :=
  impliedInstr noEffect 2 s

/-- `1C` `*NOP` AbsoluteX, 4 cycles (R186). -/
def execUNopAbx1C (a : Addr) (s : State) : Result :=
  readInstr (.mem (.absoluteX a)) discard 4 s

/-- `34` `*NOP` ZeroPageX, 4 cycles (R186). -/
def execUNopZpx34 (z : Byte) (s : State) : Result :=
  readInstr (.mem (.zeroPageX z)) discard 4 s

/-- `3A` `*NOP` Implicit, 2 cycles (R186). -/
def execUNopImp3A (s : State) : Result :=
  impliedInstr noEffect 2 s

/-- `3C` `*NOP` AbsoluteX, 4 cycles (R186). -/
def execUNopAbx3C (a : Addr) (s : State) : Result :=
  readInstr (.mem (.absoluteX a)) discard 4 s

/-- `44` `*NOP` ZeroPage, 3 cycles (R186). -/
def execUNopZp44 (z : Byte) (s : State) : Result :=
  readInstr (.mem (.zeroPage z)) discard 3 s

/-- `54` `*NOP` ZeroPageX, 4 cycles (R186). -/
def execUNopZpx54 (z : Byte) (s : State) : Result :=
  readInstr (.mem (.zeroPageX z)) discard 4 s

/-- `5A` `*NOP` Implicit, 2 cycles (R186). -/
def execUNopImp5A (s : State) : Result :=
  impliedInstr noEffect 2 s

/-- `5C` `*NOP` AbsoluteX, 4 cycles (R186). -/
def execUNopAbx5C (a : Addr) (s : State) : Result :=
  readInstr (.mem (.absoluteX a)) discard 4 s

/-- `64` `*NOP` ZeroPage, 3 cycles (R186). -/
def execUNopZp64 (z : Byte) (s : State) : Result :=
  readInstr (.mem (.zeroPage z)) discard 3 s

/-- `74` `*NOP` ZeroPageX, 4 cycles (R186). -/
def execUNopZpx74 (z : Byte) (s : State) : Result :=
  readInstr (.mem (.zeroPageX z)) discard 4 s

/-- `7A` `*NOP` Implicit, 2 cycles (R186). -/
def execUNopImp7A (s : State) : Result :=
  impliedInstr noEffect 2 s

/-- `7C` `*NOP` AbsoluteX, 4 cycles (R186). -/
def execUNopAbx7C (a : Addr) (s : State) : Result :=
  readInstr (.mem (.absoluteX a)) discard 4 s

/-- `80` `*NOP` Immediate, 2 cycles (R186). -/
def execUNopImm80 (v : Byte) (s : State) : Result :=
  readInstr (.imm v) discard 2 s

/-- `82` `*NOP` Immediate, 2 cycles (R186). -/
def execUNopImm82 (v : Byte) (s : State) : Result :=
  readInstr (.imm v) discard 2 s

/-- `89` `*NOP` Immediate, 2 cycles (R186). -/
def execUNopImm89 (v : Byte) (s : State) : Result :=
  readInstr (.imm v) discard 2 s

/-- `C2` `*NOP` Immediate, 2 cycles (R186). -/
def execUNopImmC2 (v : Byte) (s : State) : Result :=
  readInstr (.imm v) discard 2 s

/-- `D4` `*NOP` ZeroPageX, 4 cycles (R186). -/
def execUNopZpxD4 (z : Byte) (s : State) : Result :=
  readInstr (.mem (.zeroPageX z)) discard 4 s

/-- `DA` `*NOP` Implicit, 2 cycles (R186). -/
def execUNopImpDA (s : State) : Result :=
  impliedInstr noEffect 2 s

/-- `DC` `*NOP` AbsoluteX, 4 cycles (R186). -/
def execUNopAbxDC (a : Addr) (s : State) : Result :=
  readInstr (.mem (.absoluteX a)) discard 4 s

/-- `E2` `*NOP` Immediate, 2 cycles (R186). -/
def execUNopImmE2 (v : Byte) (s : State) : Result :=
  readInstr (.imm v) discard 2 s

/-- `F4` `*NOP` ZeroPageX, 4 cycles (R186). -/
def execUNopZpxF4 (z : Byte) (s : State) : Result :=
  readInstr (.mem (.zeroPageX z)) discard 4 s

/-- `FA` `*NOP` Implicit, 2 cycles (R186). -/
def execUNopImpFA (s : State) : Result :=
  impliedInstr noEffect 2 s

/-- `FC` `*NOP` AbsoluteX, 4 cycles (R186). -/
def execUNopAbxFC (a : Addr) (s : State) : Result :=
  readInstr (.mem (.absoluteX a)) discard 4 s

/-- `A3` `*LAX` IndexedIndirect, 6 cycles (R187). -/
def execULaxIzx (z : Byte) (s : State) : Result :=
  readInstr (.mem (.indexedIndirect z)) loadAX 6 s

/-- `A7` `*LAX` ZeroPage, 3 cycles (R187). -/
def execULaxZp (z : Byte) (s : State) : Result :=
  readInstr (.mem (.zeroPage z)) loadAX 3 s

/-- `AF` `*LAX` Absolute, 4 cycles (R187). -/
def execULaxAbs (a : Addr) (s : State) : Result :=
  readInstr (.mem (.absolute a)) loadAX 4 s

/-- `B3` `*LAX` IndirectIndexed, 5 cycles (R187). -/
def execULaxIzy (z : Byte) (s : State) : Result :=
  readInstr (.mem (.indirectIndexed z)) loadAX 5 s

/-- `B7` `*LAX` ZeroPageY, 4 cycles (R187). -/
def execULaxZpy (z : Byte) (s : State) : Result :=
  readInstr (.mem (.zeroPageY z)) loadAX 4 s

/-- `BF` `*LAX` AbsoluteY, 4 cycles (R187). -/
def execULaxAby (a : Addr) (s : State) : Result :=
  readInstr (.mem (.absoluteY a)) loadAX 4 s

/-- `83` `*SAX` IndexedIndirect, 6 cycles (R188). -/
def execUSaxIzx (z : Byte) (s : State) : Result :=
  writeInstr (.indexedIndirect z) saxByte 6 s

/-- `87` `*SAX` ZeroPage, 3 cycles (R188). -/
def execUSaxZp (z : Byte) (s : State) : Result :=
  writeInstr (.zeroPage z) saxByte 3 s

/-- `8F` `*SAX` Absolute, 4 cycles (R188). -/
def execUSaxAbs (a : Addr) (s : State) : Result :=
  writeInstr (.absolute a) saxByte 4 s

/-- `97` `*SAX` ZeroPageY, 4 cycles (R188). -/
def execUSaxZpy (z : Byte) (s : State) : Result :=
  writeInstr (.zeroPageY z) saxByte 4 s

/-- `EB` `*SBC` Immediate, 2 cycles (R189). -/
def execUSbcImm (v : Byte) (s : State) : Result :=
  readInstr (.imm v) sbcAcc 2 s

/-- `C3` `*DCP` IndexedIndirect, 8 cycles (R190). -/
def execUDcpIzx (z : Byte) (s : State) : Result :=
  rmwInstr (.indexedIndirect z) decByte dcpAfter 8 s

/-- `C7` `*DCP` ZeroPage, 5 cycles (R190). -/
def execUDcpZp (z : Byte) (s : State) : Result :=
  rmwInstr (.zeroPage z) decByte dcpAfter 5 s

/-- `CF` `*DCP` Absolute, 6 cycles (R190). -/
def execUDcpAbs (a : Addr) (s : State) : Result :=
  rmwInstr (.absolute a) decByte dcpAfter 6 s

/-- `D3` `*DCP` IndirectIndexedWrite, 8 cycles (R190). -/
def execUDcpIzyW (z : Byte) (s : State) : Result :=
  rmwInstr (.indirectIndexedWrite z) decByte dcpAfter 8 s

/-- `D7` `*DCP` ZeroPageX, 6 cycles (R190). -/
def execUDcpZpx (z : Byte) (s : State) : Result :=
  rmwInstr (.zeroPageX z) decByte dcpAfter 6 s

/-- `DB` `*DCP` AbsoluteYWrite, 7 cycles (R190). -/
def execUDcpAbyW (a : Addr) (s : State) : Result :=
  rmwInstr (.absoluteYWrite a) decByte dcpAfter 7 s

/-- `DF` `*DCP` AbsoluteXWrite, 7 cycles (R190). -/
def execUDcpAbxW (a : Addr) (s : State) : Result :=
  rmwInstr (.absoluteXWrite a) decByte dcpAfter 7 s

/-- `E3` `*ISB` IndexedIndirect, 8 cycles (R191). -/
def execUIsbIzx (z : Byte) (s : State) : Result :=
  rmwInstr (.indexedIndirect z) incByte isbAfter 8 s

/-- `E7` `*ISB` ZeroPage, 5 cycles (R191). -/
def execUIsbZp (z : Byte) (s : State) : Result :=
  rmwInstr (.zeroPage z) incByte isbAfter 5 s

/-- `EF` `*ISB` Absolute, 6 cycles (R191). -/
def execUIsbAbs (a : Addr) (s : State) : Result :=
  rmwInstr (.absolute a) incByte isbAfter 6 s

/-- `F3` `*ISB` IndirectIndexedWrite, 8 cycles (R191). -/
def execUIsbIzyW (z : Byte) (s : State) : Result :=
  rmwInstr (.indirectIndexedWrite z) incByte isbAfter 8 s

/-- `F7` `*ISB` ZeroPageX, 6 cycles (R191). -/
def execUIsbZpx (z : Byte) (s : State) : Result :=
  rmwInstr (.zeroPageX z) incByte isbAfter 6 s

/-- `FB` `*ISB` AbsoluteYWrite, 7 cycles (R191). -/
def execUIsbAbyW (a : Addr) (s : State) : Result :=
  rmwInstr (.absoluteYWrite a) incByte isbAfter 7 s

/-- `FF` `*ISB` AbsoluteXWrite, 7 cycles (R191). -/
def execUIsbAbxW (a : Addr) (s : State) : Result :=
  rmwInstr (.absoluteXWrite a) incByte isbAfter 7 s

/-- `03` `*SLO` IndexedIndirect, 8 cycles (R192). -/
def execUSloIzx (z : Byte) (s : State) : Result :=
  rmwInstr (.indexedIndirect z) aslByte sloAfter 8 s

/-- `07` `*SLO` ZeroPage, 5 cycles (R192). -/
def execUSloZp (z : Byte) (s : State) : Result :=
  rmwInstr (.zeroPage z) aslByte sloAfter 5 s

/-- `0F` `*SLO` Absolute, 6 cycles (R192). -/
def execUSloAbs (a : Addr) (s : State) : Result :=
  rmwInstr (.absolute a) aslByte sloAfter 6 s

/-- `13` `*SLO` IndirectIndexedWrite, 8 cycles (R192). -/
def execUSloIzyW (z : Byte) (s : State) : Result :=
  rmwInstr (.indirectIndexedWrite z) aslByte sloAfter 8 s

/-- `17` `*SLO` ZeroPageX, 6 cycles (R192). -/
def execUSloZpx (z : Byte) (s : State) : Result :=
  rmwInstr (.zeroPageX z) aslByte sloAfter 6 s

/-- `1B` `*SLO` AbsoluteYWrite, 7 cycles (R192). -/
def execUSloAbyW (a : Addr) (s : State) : Result :=
  rmwInstr (.absoluteYWrite a) aslByte sloAfter 7 s

/-- `1F` `*SLO` AbsoluteXWrite, 7 cycles (R192). -/
def execUSloAbxW (a : Addr) (s : State) : Result :=
  rmwInstr (.absoluteXWrite a) aslByte sloAfter 7 s

/-- `23` `*RLA` IndexedIndirect, 8 cycles (R193). -/
def execURlaIzx (z : Byte) (s : State) : Result :=
  rmwInstr (.indexedIndirect z) rolByte rlaAfter 8 s

/-- `27` `*RLA` ZeroPage, 5 cycles (R193). -/
def execURlaZp (z : Byte) (s : State) : Result :=
  rmwInstr (.zeroPage z) rolByte rlaAfter 5 s

/-- `2F` `*RLA` Absolute, 6 cycles (R193). -/
def execURlaAbs (a : Addr) (s : State) : Result :=
  rmwInstr (.absolute a) rolByte rlaAfter 6 s

/-- `33` `*RLA` IndirectIndexedWrite, 8 cycles (R193). -/
def execURlaIzyW (z : Byte) (s : State) : Result :=
  rmwInstr (.indirectIndexedWrite z) rolByte rlaAfter 8 s

/-- `37` `*RLA` ZeroPageX, 6 cycles (R193). -/
def execURlaZpx (z : Byte) (s : State) : Result :=
  rmwInstr (.zeroPageX z) rolByte rlaAfter 6 s

/-- `3B` `*RLA` AbsoluteYWrite, 7 cycles (R193). -/
def execURlaAbyW (a : Addr) (s : State) : Result :=
  rmwInstr (.absoluteYWrite a) rolByte rlaAfter 7 s

/-- `3F` `*RLA` AbsoluteXWrite, 7 cycles (R193). -/
def execURlaAbxW (a : Addr) (s : State) : Result :=
  rmwInstr (.absoluteXWrite a) rolByte rlaAfter 7 s

/-- `43` `*SRE` IndexedIndirect, 8 cycles (R194). -/
def execUSreIzx (z : Byte) (s : State) : Result :=
  rmwInstr (.indexedIndirect z) lsrByte sreAfter 8 s

/-- `47` `*SRE` ZeroPage, 5 cycles (R194). -/
def execUSreZp (z : Byte) (s : State) : Result :=
  rmwInstr (.zeroPage z) lsrByte sreAfter 5 s

/-- `4F` `*SRE` Absolute, 6 cycles (R194). -/
def execUSreAbs (a : Addr) (s : State) : Result :=
  rmwInstr (.absolute a) lsrByte sreAfter 6 s

/-- `53` `*SRE` IndirectIndexedWrite, 8 cycles (R194). -/
def execUSreIzyW (z : Byte) (s : State) : Result :=
  rmwInstr (.indirectIndexedWrite z) lsrByte sreAfter 8 s

/-- `57` `*SRE` ZeroPageX, 6 cycles (R194). -/
def execUSreZpx (z : Byte) (s : State) : Result :=
  rmwInstr (.zeroPageX z) lsrByte sreAfter 6 s

/-- `5B` `*SRE` AbsoluteYWrite, 7 cycles (R194). -/
def execUSreAbyW (a : Addr) (s : State) : Result :=
  rmwInstr (.absoluteYWrite a) lsrByte sreAfter 7 s

/-- `5F` `*SRE` AbsoluteXWrite, 7 cycles (R194). -/
def execUSreAbxW (a : Addr) (s : State) : Result :=
  rmwInstr (.absoluteXWrite a) lsrByte sreAfter 7 s

/-- `63` `*RRA` IndexedIndirect, 8 cycles (R195). -/
def execURraIzx (z : Byte) (s : State) : Result :=
  rmwInstr (.indexedIndirect z) rorByte rraAfter 8 s

/-- `67` `*RRA` ZeroPage, 5 cycles (R195). -/
def execURraZp (z : Byte) (s : State) : Result :=
  rmwInstr (.zeroPage z) rorByte rraAfter 5 s

/-- `6F` `*RRA` Absolute, 6 cycles (R195). -/
def execURraAbs (a : Addr) (s : State) : Result :=
  rmwInstr (.absolute a) rorByte rraAfter 6 s

/-- `73` `*RRA` IndirectIndexedWrite, 8 cycles (R195). -/
def execURraIzyW (z : Byte) (s : State) : Result :=
  rmwInstr (.indirectIndexedWrite z) rorByte rraAfter 8 s

/-- `77` `*RRA` ZeroPageX, 6 cycles (R195). -/
def execURraZpx (z : Byte) (s : State) : Result :=
  rmwInstr (.zeroPageX z) rorByte rraAfter 6 s

/-- `7B` `*RRA` AbsoluteYWrite, 7 cycles (R195). -/
def execURraAbyW (a : Addr) (s : State) : Result :=
  rmwInstr (.absoluteYWrite a) rorByte rraAfter 7 s

/-- `7F` `*RRA` AbsoluteXWrite, 7 cycles (R195). -/
def execURraAbxW (a : Addr) (s : State) : Result :=
  rmwInstr (.absoluteXWrite a) rorByte rraAfter 7 s

end Sys2Proof.Machine
end

