-- ==== Sys2Proof/Machine/Dispatch.lean ====
section
/-! DEFINITION. The dispatch of 40_step_and_addressing.md R70: one arm per constructor of
`Instr`, each one direct call of that instruction's meaning. -/

namespace Sys2Proof.Machine

def exec (i : Instr) (s : State) : Host.Outcome State Fault Refusal :=
  match i with
  | .brk => Sys2Proof.Machine.execBrk s
  | .oraIzx z => Sys2Proof.Machine.execOraIzx z s
  | .uSloIzx z => Sys2Proof.Machine.execUSloIzx z s
  | .uNopZp04 z => Sys2Proof.Machine.execUNopZp04 z s
  | .oraZp z => Sys2Proof.Machine.execOraZp z s
  | .aslZp z => Sys2Proof.Machine.execAslZp z s
  | .uSloZp z => Sys2Proof.Machine.execUSloZp z s
  | .php => Sys2Proof.Machine.execPhp s
  | .oraImm v => Sys2Proof.Machine.execOraImm v s
  | .aslAcc => Sys2Proof.Machine.execAslAcc s
  | .uNopAbs0C a => Sys2Proof.Machine.execUNopAbs0C a s
  | .oraAbs a => Sys2Proof.Machine.execOraAbs a s
  | .aslAbs a => Sys2Proof.Machine.execAslAbs a s
  | .uSloAbs a => Sys2Proof.Machine.execUSloAbs a s
  | .bplRel d => Sys2Proof.Machine.execBplRel d s
  | .oraIzy z => Sys2Proof.Machine.execOraIzy z s
  | .uSloIzyW z => Sys2Proof.Machine.execUSloIzyW z s
  | .uNopZpx14 z => Sys2Proof.Machine.execUNopZpx14 z s
  | .oraZpx z => Sys2Proof.Machine.execOraZpx z s
  | .aslZpx z => Sys2Proof.Machine.execAslZpx z s
  | .uSloZpx z => Sys2Proof.Machine.execUSloZpx z s
  | .clc => Sys2Proof.Machine.execClc s
  | .oraAby a => Sys2Proof.Machine.execOraAby a s
  | .uNopImp1A => Sys2Proof.Machine.execUNopImp1A s
  | .uSloAbyW a => Sys2Proof.Machine.execUSloAbyW a s
  | .uNopAbx1C a => Sys2Proof.Machine.execUNopAbx1C a s
  | .oraAbx a => Sys2Proof.Machine.execOraAbx a s
  | .aslAbxW a => Sys2Proof.Machine.execAslAbxW a s
  | .uSloAbxW a => Sys2Proof.Machine.execUSloAbxW a s
  | .jsrAbs a => Sys2Proof.Machine.execJsrAbs a s
  | .andIzx z => Sys2Proof.Machine.execAndIzx z s
  | .uRlaIzx z => Sys2Proof.Machine.execURlaIzx z s
  | .bitZp z => Sys2Proof.Machine.execBitZp z s
  | .andZp z => Sys2Proof.Machine.execAndZp z s
  | .rolZp z => Sys2Proof.Machine.execRolZp z s
  | .uRlaZp z => Sys2Proof.Machine.execURlaZp z s
  | .plp => Sys2Proof.Machine.execPlp s
  | .andImm v => Sys2Proof.Machine.execAndImm v s
  | .rolAcc => Sys2Proof.Machine.execRolAcc s
  | .bitAbs a => Sys2Proof.Machine.execBitAbs a s
  | .andAbs a => Sys2Proof.Machine.execAndAbs a s
  | .rolAbs a => Sys2Proof.Machine.execRolAbs a s
  | .uRlaAbs a => Sys2Proof.Machine.execURlaAbs a s
  | .bmiRel d => Sys2Proof.Machine.execBmiRel d s
  | .andIzy z => Sys2Proof.Machine.execAndIzy z s
  | .uRlaIzyW z => Sys2Proof.Machine.execURlaIzyW z s
  | .uNopZpx34 z => Sys2Proof.Machine.execUNopZpx34 z s
  | .andZpx z => Sys2Proof.Machine.execAndZpx z s
  | .rolZpx z => Sys2Proof.Machine.execRolZpx z s
  | .uRlaZpx z => Sys2Proof.Machine.execURlaZpx z s
  | .sec => Sys2Proof.Machine.execSec s
  | .andAby a => Sys2Proof.Machine.execAndAby a s
  | .uNopImp3A => Sys2Proof.Machine.execUNopImp3A s
  | .uRlaAbyW a => Sys2Proof.Machine.execURlaAbyW a s
  | .uNopAbx3C a => Sys2Proof.Machine.execUNopAbx3C a s
  | .andAbx a => Sys2Proof.Machine.execAndAbx a s
  | .rolAbxW a => Sys2Proof.Machine.execRolAbxW a s
  | .uRlaAbxW a => Sys2Proof.Machine.execURlaAbxW a s
  | .rti => Sys2Proof.Machine.execRti s
  | .eorIzx z => Sys2Proof.Machine.execEorIzx z s
  | .uSreIzx z => Sys2Proof.Machine.execUSreIzx z s
  | .uNopZp44 z => Sys2Proof.Machine.execUNopZp44 z s
  | .eorZp z => Sys2Proof.Machine.execEorZp z s
  | .lsrZp z => Sys2Proof.Machine.execLsrZp z s
  | .uSreZp z => Sys2Proof.Machine.execUSreZp z s
  | .pha => Sys2Proof.Machine.execPha s
  | .eorImm v => Sys2Proof.Machine.execEorImm v s
  | .lsrAcc => Sys2Proof.Machine.execLsrAcc s
  | .jmpAbs a => Sys2Proof.Machine.execJmpAbs a s
  | .eorAbs a => Sys2Proof.Machine.execEorAbs a s
  | .lsrAbs a => Sys2Proof.Machine.execLsrAbs a s
  | .uSreAbs a => Sys2Proof.Machine.execUSreAbs a s
  | .bvcRel d => Sys2Proof.Machine.execBvcRel d s
  | .eorIzy z => Sys2Proof.Machine.execEorIzy z s
  | .uSreIzyW z => Sys2Proof.Machine.execUSreIzyW z s
  | .uNopZpx54 z => Sys2Proof.Machine.execUNopZpx54 z s
  | .eorZpx z => Sys2Proof.Machine.execEorZpx z s
  | .lsrZpx z => Sys2Proof.Machine.execLsrZpx z s
  | .uSreZpx z => Sys2Proof.Machine.execUSreZpx z s
  | .cli => Sys2Proof.Machine.execCli s
  | .eorAby a => Sys2Proof.Machine.execEorAby a s
  | .uNopImp5A => Sys2Proof.Machine.execUNopImp5A s
  | .uSreAbyW a => Sys2Proof.Machine.execUSreAbyW a s
  | .uNopAbx5C a => Sys2Proof.Machine.execUNopAbx5C a s
  | .eorAbx a => Sys2Proof.Machine.execEorAbx a s
  | .lsrAbxW a => Sys2Proof.Machine.execLsrAbxW a s
  | .uSreAbxW a => Sys2Proof.Machine.execUSreAbxW a s
  | .rts => Sys2Proof.Machine.execRts s
  | .adcIzx z => Sys2Proof.Machine.execAdcIzx z s
  | .uRraIzx z => Sys2Proof.Machine.execURraIzx z s
  | .uNopZp64 z => Sys2Proof.Machine.execUNopZp64 z s
  | .adcZp z => Sys2Proof.Machine.execAdcZp z s
  | .rorZp z => Sys2Proof.Machine.execRorZp z s
  | .uRraZp z => Sys2Proof.Machine.execURraZp z s
  | .pla => Sys2Proof.Machine.execPla s
  | .adcImm v => Sys2Proof.Machine.execAdcImm v s
  | .rorAcc => Sys2Proof.Machine.execRorAcc s
  | .jmpInd p => Sys2Proof.Machine.execJmpInd p s
  | .adcAbs a => Sys2Proof.Machine.execAdcAbs a s
  | .rorAbs a => Sys2Proof.Machine.execRorAbs a s
  | .uRraAbs a => Sys2Proof.Machine.execURraAbs a s
  | .bvsRel d => Sys2Proof.Machine.execBvsRel d s
  | .adcIzy z => Sys2Proof.Machine.execAdcIzy z s
  | .uRraIzyW z => Sys2Proof.Machine.execURraIzyW z s
  | .uNopZpx74 z => Sys2Proof.Machine.execUNopZpx74 z s
  | .adcZpx z => Sys2Proof.Machine.execAdcZpx z s
  | .rorZpx z => Sys2Proof.Machine.execRorZpx z s
  | .uRraZpx z => Sys2Proof.Machine.execURraZpx z s
  | .sei => Sys2Proof.Machine.execSei s
  | .adcAby a => Sys2Proof.Machine.execAdcAby a s
  | .uNopImp7A => Sys2Proof.Machine.execUNopImp7A s
  | .uRraAbyW a => Sys2Proof.Machine.execURraAbyW a s
  | .uNopAbx7C a => Sys2Proof.Machine.execUNopAbx7C a s
  | .adcAbx a => Sys2Proof.Machine.execAdcAbx a s
  | .rorAbxW a => Sys2Proof.Machine.execRorAbxW a s
  | .uRraAbxW a => Sys2Proof.Machine.execURraAbxW a s
  | .uNopImm80 v => Sys2Proof.Machine.execUNopImm80 v s
  | .staIzx z => Sys2Proof.Machine.execStaIzx z s
  | .uNopImm82 v => Sys2Proof.Machine.execUNopImm82 v s
  | .uSaxIzx z => Sys2Proof.Machine.execUSaxIzx z s
  | .styZp z => Sys2Proof.Machine.execStyZp z s
  | .staZp z => Sys2Proof.Machine.execStaZp z s
  | .stxZp z => Sys2Proof.Machine.execStxZp z s
  | .uSaxZp z => Sys2Proof.Machine.execUSaxZp z s
  | .dey => Sys2Proof.Machine.execDey s
  | .uNopImm89 v => Sys2Proof.Machine.execUNopImm89 v s
  | .txa => Sys2Proof.Machine.execTxa s
  | .styAbs a => Sys2Proof.Machine.execStyAbs a s
  | .staAbs a => Sys2Proof.Machine.execStaAbs a s
  | .stxAbs a => Sys2Proof.Machine.execStxAbs a s
  | .uSaxAbs a => Sys2Proof.Machine.execUSaxAbs a s
  | .bccRel d => Sys2Proof.Machine.execBccRel d s
  | .staIzyW z => Sys2Proof.Machine.execStaIzyW z s
  | .styZpx z => Sys2Proof.Machine.execStyZpx z s
  | .staZpx z => Sys2Proof.Machine.execStaZpx z s
  | .stxZpy z => Sys2Proof.Machine.execStxZpy z s
  | .uSaxZpy z => Sys2Proof.Machine.execUSaxZpy z s
  | .tya => Sys2Proof.Machine.execTya s
  | .staAbyW a => Sys2Proof.Machine.execStaAbyW a s
  | .txs => Sys2Proof.Machine.execTxs s
  | .staAbxW a => Sys2Proof.Machine.execStaAbxW a s
  | .ldyImm v => Sys2Proof.Machine.execLdyImm v s
  | .ldaIzx z => Sys2Proof.Machine.execLdaIzx z s
  | .ldxImm v => Sys2Proof.Machine.execLdxImm v s
  | .uLaxIzx z => Sys2Proof.Machine.execULaxIzx z s
  | .ldyZp z => Sys2Proof.Machine.execLdyZp z s
  | .ldaZp z => Sys2Proof.Machine.execLdaZp z s
  | .ldxZp z => Sys2Proof.Machine.execLdxZp z s
  | .uLaxZp z => Sys2Proof.Machine.execULaxZp z s
  | .tay => Sys2Proof.Machine.execTay s
  | .ldaImm v => Sys2Proof.Machine.execLdaImm v s
  | .tax => Sys2Proof.Machine.execTax s
  | .ldyAbs a => Sys2Proof.Machine.execLdyAbs a s
  | .ldaAbs a => Sys2Proof.Machine.execLdaAbs a s
  | .ldxAbs a => Sys2Proof.Machine.execLdxAbs a s
  | .uLaxAbs a => Sys2Proof.Machine.execULaxAbs a s
  | .bcsRel d => Sys2Proof.Machine.execBcsRel d s
  | .ldaIzy z => Sys2Proof.Machine.execLdaIzy z s
  | .uLaxIzy z => Sys2Proof.Machine.execULaxIzy z s
  | .ldyZpx z => Sys2Proof.Machine.execLdyZpx z s
  | .ldaZpx z => Sys2Proof.Machine.execLdaZpx z s
  | .ldxZpy z => Sys2Proof.Machine.execLdxZpy z s
  | .uLaxZpy z => Sys2Proof.Machine.execULaxZpy z s
  | .clv => Sys2Proof.Machine.execClv s
  | .ldaAby a => Sys2Proof.Machine.execLdaAby a s
  | .tsx => Sys2Proof.Machine.execTsx s
  | .ldyAbx a => Sys2Proof.Machine.execLdyAbx a s
  | .ldaAbx a => Sys2Proof.Machine.execLdaAbx a s
  | .ldxAby a => Sys2Proof.Machine.execLdxAby a s
  | .uLaxAby a => Sys2Proof.Machine.execULaxAby a s
  | .cpyImm v => Sys2Proof.Machine.execCpyImm v s
  | .cmpIzx z => Sys2Proof.Machine.execCmpIzx z s
  | .uNopImmC2 v => Sys2Proof.Machine.execUNopImmC2 v s
  | .uDcpIzx z => Sys2Proof.Machine.execUDcpIzx z s
  | .cpyZp z => Sys2Proof.Machine.execCpyZp z s
  | .cmpZp z => Sys2Proof.Machine.execCmpZp z s
  | .decZp z => Sys2Proof.Machine.execDecZp z s
  | .uDcpZp z => Sys2Proof.Machine.execUDcpZp z s
  | .iny => Sys2Proof.Machine.execIny s
  | .cmpImm v => Sys2Proof.Machine.execCmpImm v s
  | .dex => Sys2Proof.Machine.execDex s
  | .cpyAbs a => Sys2Proof.Machine.execCpyAbs a s
  | .cmpAbs a => Sys2Proof.Machine.execCmpAbs a s
  | .decAbs a => Sys2Proof.Machine.execDecAbs a s
  | .uDcpAbs a => Sys2Proof.Machine.execUDcpAbs a s
  | .bneRel d => Sys2Proof.Machine.execBneRel d s
  | .cmpIzy z => Sys2Proof.Machine.execCmpIzy z s
  | .uDcpIzyW z => Sys2Proof.Machine.execUDcpIzyW z s
  | .uNopZpxD4 z => Sys2Proof.Machine.execUNopZpxD4 z s
  | .cmpZpx z => Sys2Proof.Machine.execCmpZpx z s
  | .decZpx z => Sys2Proof.Machine.execDecZpx z s
  | .uDcpZpx z => Sys2Proof.Machine.execUDcpZpx z s
  | .cld => Sys2Proof.Machine.execCld s
  | .cmpAby a => Sys2Proof.Machine.execCmpAby a s
  | .uNopImpDA => Sys2Proof.Machine.execUNopImpDA s
  | .uDcpAbyW a => Sys2Proof.Machine.execUDcpAbyW a s
  | .uNopAbxDC a => Sys2Proof.Machine.execUNopAbxDC a s
  | .cmpAbx a => Sys2Proof.Machine.execCmpAbx a s
  | .decAbxW a => Sys2Proof.Machine.execDecAbxW a s
  | .uDcpAbxW a => Sys2Proof.Machine.execUDcpAbxW a s
  | .cpxImm v => Sys2Proof.Machine.execCpxImm v s
  | .sbcIzx z => Sys2Proof.Machine.execSbcIzx z s
  | .uNopImmE2 v => Sys2Proof.Machine.execUNopImmE2 v s
  | .uIsbIzx z => Sys2Proof.Machine.execUIsbIzx z s
  | .cpxZp z => Sys2Proof.Machine.execCpxZp z s
  | .sbcZp z => Sys2Proof.Machine.execSbcZp z s
  | .incZp z => Sys2Proof.Machine.execIncZp z s
  | .uIsbZp z => Sys2Proof.Machine.execUIsbZp z s
  | .inx => Sys2Proof.Machine.execInx s
  | .sbcImm v => Sys2Proof.Machine.execSbcImm v s
  | .nop => Sys2Proof.Machine.execNop s
  | .uSbcImm v => Sys2Proof.Machine.execUSbcImm v s
  | .cpxAbs a => Sys2Proof.Machine.execCpxAbs a s
  | .sbcAbs a => Sys2Proof.Machine.execSbcAbs a s
  | .incAbs a => Sys2Proof.Machine.execIncAbs a s
  | .uIsbAbs a => Sys2Proof.Machine.execUIsbAbs a s
  | .beqRel d => Sys2Proof.Machine.execBeqRel d s
  | .sbcIzy z => Sys2Proof.Machine.execSbcIzy z s
  | .uIsbIzyW z => Sys2Proof.Machine.execUIsbIzyW z s
  | .uNopZpxF4 z => Sys2Proof.Machine.execUNopZpxF4 z s
  | .sbcZpx z => Sys2Proof.Machine.execSbcZpx z s
  | .incZpx z => Sys2Proof.Machine.execIncZpx z s
  | .uIsbZpx z => Sys2Proof.Machine.execUIsbZpx z s
  | .sed => Sys2Proof.Machine.execSed s
  | .sbcAby a => Sys2Proof.Machine.execSbcAby a s
  | .uNopImpFA => Sys2Proof.Machine.execUNopImpFA s
  | .uIsbAbyW a => Sys2Proof.Machine.execUIsbAbyW a s
  | .uNopAbxFC a => Sys2Proof.Machine.execUNopAbxFC a s
  | .sbcAbx a => Sys2Proof.Machine.execSbcAbx a s
  | .incAbxW a => Sys2Proof.Machine.execIncAbxW a s
  | .uIsbAbxW a => Sys2Proof.Machine.execUIsbAbxW a s

end Sys2Proof.Machine
end

