-- ==== Sys2Proof/Machine/Fetch.lean ====
section
/-! DEFINITION. Fetching an instruction and one step at an instruction boundary
(40_step_and_addressing.md R70 to R72, 60_exceptions.md R200, R206, R207, R210). -/

namespace Sys2Proof.Machine

/-- What the fetch at `PC` finds, and the state after its Bus reads. -/
inductive Fetched
  | instr (i : Instr) (s : State)
  | unknown (opcode : Byte) (s : State)
  deriving DecidableEq, Repr

/-- Reads the operand bytes a template asks for, byte 1 before byte 2, each once
(40_step_and_addressing.md R71, spec decision D27). `s` still holds the opcode's address in
`PC`. -/
def fetchOperands (t : Template) (s : State) : Fetched :=
  match t with
  | .none i => .instr i s
  | .byte f =>
    let b1 := memRead (s.pc + 1) s
    .instr (f b1.1) b1.2
  | .word f =>
    let b1 := memRead (s.pc + 1) s
    let b2 := memRead (s.pc + 2) b1.2
    .instr (f (addrOfBytes b2.1 b1.1)) b2.2

/-- Reads the opcode byte at `PC`, looks it up, and reads the operand bytes the entry has; an
absent byte reads nothing more (40_step_and_addressing.md R71). -/
def fetch (s : State) : Fetched :=
  let o := memRead s.pc s
  match lookup o.1 with
  | none => .unknown o.1 o.2
  | some e => fetchOperands e.make o.2

/-- `UnknownOpcode(pc, byte)`: the state after the opcode read is left as it is, and Halted
(60_exceptions.md R200, spec decision D23). -/
def raiseUnknownOpcode (opcode : Byte) (s : State) : Result :=
  .fault (.unknownOpcode s.pc opcode { s with run := .halted s.pc opcode })

/-- The instruction at `PC`: fetched and executed, or the fault of an absent opcode
(40_step_and_addressing.md R70). -/
def instructionStep (s : State) : Result :=
  match fetch s with
  | .instr i t => exec i t
  | .unknown b t => raiseUnknownOpcode b t

/-- The step at a boundary: NMI first, then an unmasked IRQ, then the instruction
(60_exceptions.md R206, R207, R210). -/
def boundaryStep (s : State) : Result :=
  if s.nmiPending then .next (interruptEntry Config.vecNMI { s with nmiPending := false })
  else if s.irqLine && !s.p.i then .next (interruptEntry Config.vecIRQ s)
  else instructionStep s

/-- Stores consecutive bytes from an address on, without Bus events: how a platform is loaded. -/
def loadBytes : List Byte → Addr → Memory → Memory
  | [], _, m => m
  | b :: bs, a, m => loadBytes bs (a + 1) (Memory.write m a.toNat b)

end Sys2Proof.Machine
end

