-- ==== Sys2Proof/Machine/Step.lean ====
section
/-! DEFINITION. One step of the machine, and placing an instruction where the next step fetches
it. -/

namespace Sys2Proof.Machine

/-- One step: the environment's moves at this boundary, then an interrupt entry or an instruction
(40_step_and_addressing.md R70). A Halted core has no step (10_state.md R24). -/
def step (s : State) : Host.Outcome State Fault Refusal :=
  match s.run with
  | .halted pc b => .fault (.halted pc b)
  | .idle => boundaryStep (openBoundary s)

/-- `s` with an instruction (its bits above `nbits` zero) in the three bytes at `PC`, and the
environment quiet at this boundary and during the fetch, so that the next step fetches and runs
it (log entries 9 and 10). -/
def State.withFetchWord (s : State) (nbits w : Nat) : State :=
  let v := w % 2 ^ nbits
  let reads := ((decodeTableWord nbits w).map Instr.len).getD 1
  { s with
    run := .idle
    nmiPending := false
    irqLine := s.irqLine && s.p.i
    schedule := match s.schedule with
      | [] => []
      | _ :: later => [] :: later
    answers := if s.answers = [] then [] else List.replicate reads none ++ s.answers.drop reads
    mem := loadBytes [BitVec.ofNat 8 v, BitVec.ofNat 8 (v / 256), BitVec.ofNat 8 (v / 65536)]
      s.pc s.mem }

end Sys2Proof.Machine
end

