-- ==== Sys2Proof/Machine/RunLoop.lean ====
section
/-! DEFINITION. The run loop and its budget (70_reset_and_hazards.md R245, R246). -/

namespace Sys2Proof.Machine

/-- The budget test at an instruction boundary, `cyc >= n`; no budget never ends a run
(70_reset_and_hazards.md R245, spec decision D22). -/
def budgetReached (maxCycles : Option Nat) (s : State) : Bool :=
  match maxCycles with
  | none => false
  | some n => decide (n ≤ s.cyc)

/-- At most `fuel` steps, ending normally at the first boundary where the budget is reached: the
test comes before the interrupt tests and the fetch (70_reset_and_hazards.md R245). The fuel is
the environment that stops asking for steps (R246; log entry 12). -/
def runLoop (maxCycles : Option Nat) : Nat → State → Result
  | 0, s => .next s
  | fuel + 1, s =>
    if budgetReached maxCycles s then .next s
    else
      match step s with
      | .next t => runLoop maxCycles fuel t
      | .fault f => .fault f
      | .refused r => .refused r

end Sys2Proof.Machine
end

