-- ==== Sys2Proof/Safety.lean ====
section
/-! DEFINITION. The vocabulary the claims are written in: the registers as a program sees them,
the byte each Bus read answers, what an instruction reads and where it stores, the invariant of
the machine, and what counts as a safe step. -/

namespace Sys2Proof.Machine

/-- The registers a program can see, together. -/
structure Regs where
  a  : Byte
  x  : Byte
  y  : Byte
  sp : Byte
  pc : Addr
  p  : Flags
  deriving DecidableEq, Repr

/-- The registers of a state. -/
def State.regs (s : State) : Regs := ⟨s.a, s.x, s.y, s.sp, s.pc, s.p⟩

/-- The byte the Bus answers to the read that comes `k` reads from now, at address `a`, if
nothing is stored to `a` before: the environment's answer if it gives one, else the memory's. -/
def State.answerAt (s : State) (k : Nat) (a : Addr) : Byte :=
  match s.answers[k]? with
  | some (some v) => v
  | _ => s.peek a

/-- The 16-bit value two consecutive reads answer, low byte at `lo` and high byte at `hi`. -/
def State.pointerAt (s : State) (k : Nat) (lo hi : Addr) : Addr :=
  addrOfBytes (s.answerAt (k + 1) hi) (s.answerAt k lo)

/-- Zero and negative of an 8-bit result, read off its number (10_state.md R18). -/
def znOf (r : Byte) (f : Flags) : Flags :=
  { f with z := decide (r.toNat = 0), n := decide (128 ≤ r.toNat) }

/-- A byte read as two's complement. -/
def signedByte (b : Byte) : Int := if b.toNat < 128 then b.toNat else (b.toNat : Int) - 256

/-- A signed sum that an 8-bit result cannot hold (42_arithmetic.md R110). -/
def outOfSignedRange (k : Int) : Bool := decide (k < -128) || decide (127 < k)

/-- The result byte and the carry of a shift or rotate of `v` with carry `c`, as numbers
(43_shift_rotate.md R121 to R124). -/
def shiftSpec (op : Op) (c : Bool) (v : Byte) : Byte × Bool :=
  if op = .asl then (BitVec.ofNat 8 (2 * v.toNat), decide (128 ≤ v.toNat))
  else if op = .lsr then (BitVec.ofNat 8 (v.toNat / 2), decide (v.toNat % 2 = 1))
  else if op = .rol then (BitVec.ofNat 8 (2 * v.toNat + c.toNat), decide (128 ≤ v.toNat))
  else (BitVec.ofNat 8 (v.toNat / 2 + 128 * c.toNat), decide (v.toNat % 2 = 1))

/-- The effective address of an instruction's memory form in a state (0 for the other forms,
which have none that is accessed). -/
def eaOf (i : Instr) (s : State) : Addr :=
  match i.form with
  | .mem m => (effectiveAddress m s).1
  | _ => 0

/-- The operand byte of an instruction in a state: the immediate byte, `A`, or what the Bus
answers at the effective address (0 for the forms without an operand byte). -/
def operandOf (i : Instr) (s : State) : Byte :=
  match i.form with
  | .immediate v => v
  | .accumulator => s.a
  | .mem m => (readOperand (.mem m) s).1
  | _ => 0

/-- The displacement byte of a branch (0 for the other forms). -/
def dispOf (i : Instr) : Byte :=
  match i.form with
  | .relative d => d
  | _ => 0

/-- An instruction's access crosses a page in a mode that honours the penalty
(40_step_and_addressing.md R87). -/
def paysExtra (i : Instr) (s : State) : Bool :=
  match i.form with
  | .mem m => paysPageCross m.mode && (resolve m s).1.extra
  | _ => false

/-- The condition of each branch (46_branch_jump.md R151 to R158); no other instruction
branches. -/
def branchTaken (i : Instr) (f : Flags) : Bool :=
  (i.op = .bcc && !f.c) || (i.op = .bcs && f.c) || (i.op = .beq && f.z) || (i.op = .bne && !f.z) ||
  (i.op = .bmi && f.n) || (i.op = .bpl && !f.n) || (i.op = .bvc && !f.v) || (i.op = .bvs && f.v)

/-- The cycles a taken branch adds (46_branch_jump.md R150). -/
def branchExtra (i : Instr) (s : State) : Nat :=
  if branchTaken i s.p then branchPenalty s.pc (dispOf i) else 0

/-- The mnemonics that store to their effective address. -/
def storingOps : List Op :=
  [.sta, .stx, .sty, .uSax, .inc, .dec, .uDcp, .uIsb, .uSlo, .uRla, .uSre, .uRra]

/-- The shift and rotate mnemonics, which store unless they work on `A`. -/
def shiftOps : List Op := [.asl, .lsr, .rol, .ror]

/-- The branch mnemonics. -/
def branchOps : List Op := [.bcc, .bcs, .beq, .bne, .bmi, .bpl, .bvc, .bvs]

/-- The read-modify-write mnemonics. -/
def rmwOps : List Op :=
  [.inc, .dec, .asl, .lsr, .rol, .ror, .uDcp, .uIsb, .uSlo, .uRla, .uSre, .uRra]

/-- The base cost of a mnemonic in a mode, by class: the `cyc` columns of 30_encoding.md R56 and
R57 (spec decision D15). Stores and reading instructions differ only in the write variants, which
no reading instruction has. -/
def specCost (o : Op) (m : Mode) : Nat :=
  if o = .jmp then (if m = .absolute then 3 else 5)
  else if o ∈ [.jsr, .rts, .rti] then 6
  else if o = .brk then 7
  else if o ∈ [.pha, .php] then 3
  else if o ∈ [.pla, .plp] then 4
  else if o ∈ rmwOps ∧ m ≠ .accumulator then
    (if m = .zeroPage then 5
     else if m ∈ [.zeroPageX, .absolute] then 6
     else if m ∈ [.absoluteXWrite, .absoluteYWrite] then 7
     else 8)
  else if m ∈ [.implicit, .accumulator, .immediate, .relative] then 2
  else if m = .zeroPage then 3
  else if m ∈ [.zeroPageX, .zeroPageY, .absolute, .absoluteX, .absoluteY] then 4
  else if m ∈ [.indirectIndexed, .absoluteXWrite, .absoluteYWrite] then 5
  else 6

/-- The addresses of the pointer bytes a form has the resolver read, in order
(40_step_and_addressing.md R83 to R85). -/
def pointerAddrs (f : AddrForm) (s : State) : List Addr :=
  match f with
  | .mem (.indirect p) => [p, if p.toNat % 256 = 255 then p - 255 else p + 1]
  | .mem (.indexedIndirect z) => [zeroPageAddr (z + s.x), zeroPageAddr (z + s.x + 1)]
  | .mem (.indirectIndexed z) | .mem (.indirectIndexedWrite z) =>
    [zeroPageAddr z, zeroPageAddr (z + 1)]
  | .implicit | .accumulator | .immediate _ | .relative _ => []
  | .mem (.zeroPage _) | .mem (.zeroPageX _) | .mem (.zeroPageY _) | .mem (.absolute _) => []
  | .mem (.absoluteX _) | .mem (.absoluteY _) => []
  | .mem (.absoluteXWrite _) | .mem (.absoluteYWrite _) => []

/-- The addresses an instruction stores to, in order. -/
def storedAddrs (i : Instr) (s : State) : List Addr :=
  if i.op ∈ storingOps ∨ (i.op ∈ shiftOps ∧ i.form ≠ .accumulator) then [eaOf i s]
  else if i.op = .pha ∨ i.op = .php then [stackAddr s.sp]
  else if i.op = .jsr then [stackAddr s.sp, stackAddr (s.sp - 1)]
  else if i.op = .brk then [stackAddr s.sp, stackAddr (s.sp - 1), stackAddr (s.sp - 2)]
  else []

/-- From `s` to `t` memory reads as before everywhere but at `a`, which reads `v`. -/
def OnlyByteChanged (s t : State) (a : Addr) (v : Byte) : Prop :=
  t.peek a = v ∧ ∀ b, b ≠ a → t.peek b = s.peek b

/-- From `s` to `t` every byte of memory reads as before. -/
def MemoryUnchanged (s t : State) : Prop := ∀ b, t.peek b = s.peek b

/-- What the environment owns and no instruction writes is as before: the run state, the NMI
request, the IRQ level and the schedule. -/
def EnvironmentUnchanged (s t : State) : Prop :=
  t.run = s.run ∧ t.nmiPending = s.nmiPending ∧ t.irqLine = s.irqLine ∧ t.schedule = s.schedule

/-- The cycles the tick events of a list charge. -/
def busTicks : List BusEvent → Nat
  | [] => 0
  | .tick n :: es => n + busTicks es
  | .read _ _ :: es => busTicks es
  | .write _ _ :: es => busTicks es

/-- The invariant of the machine. -/
structure State.Inv (s : State) : Prop where
  /-- Memory is in its canonical form. -/
  memory : Memory.wf s.mem = true
  /-- The cycle counter is what has been charged to the Bus (10_state.md R23). -/
  cycles : s.cyc = busTicks s.bus
  /-- No step emits `Tick(0)` (20_memory.md R33). -/
  ticks : ∀ n, BusEvent.tick n ∈ s.bus → 1 ≤ n

/-- At an opened boundary an interrupt is taken: a pending NMI, or an active IRQ line that `P.I`
does not mask (60_exceptions.md R206, R207, R210). -/
def interruptDue (s : State) : Bool := s.nmiPending || (s.irqLine && !s.p.i)

/-- The next step executes the instruction at `PC`: the core is Idle and, after the environment's
moves at this boundary, no interrupt is taken (60_exceptions.md R206, R207, R210). -/
def State.AtInstruction (s : State) : Prop :=
  s.run = .idle ∧ interruptDue (openBoundary s) = false

/-- The 25 opcode bytes without a registry entry (30_encoding.md R58). -/
def absentBytes : List Byte :=
  [0x02, 0x0B, 0x12, 0x22, 0x2B, 0x32, 0x42, 0x4B, 0x52, 0x62, 0x6B, 0x72, 0x8B, 0x92, 0x93,
   0x9B, 0x9C, 0x9E, 0x9F, 0xAB, 0xB2, 0xBB, 0xCB, 0xD2, 0xF2]

/-- A safe step answers a next state: neither a fault nor a refusal. -/
def SafeStep (s : State) : Prop := ∃ t, step s = .next t

end Sys2Proof.Machine
end

