-- ==== Sys2Proof/Certificates/Slice0/Obligations.lean ====
section
/-! DEFINITION. The statements about the model, for the provers. Each docstring names the rules of
spec/ it rests on; where the spec marks a rule as its own decision D<n>, the docstring says so. -/

open Sys2Proof Sys2Proof.Machine

/-! ### Encoding and the registry -/

/-- Words written out bit by bit from 30_encoding.md R53 to R57, one of each length and family,
decode to the instructions they stand for; the 16-bit field comes low byte first (R54). The opcode
map is the spec's decision D1. -/
def Obligations.SpecWordsDecode : Prop :=
  decode [0b00101001, 0b00001111] = .ok (.andImm 0x0F) [] ∧
  decode [0b01101101, 0b00110100, 0b00010010] = .ok (.adcAbs 0x1234) [] ∧
  decode [0b00001010] = .ok .aslAcc [] ∧
  decode [0b10011101, 0b00000000, 0b00000010] = .ok (.staAbxW 0x0200) [] ∧
  decode [0b11001100, 0b00000000, 0b00000010] = .ok (.cpyAbs 0x0200) [] ∧
  decode [0b11010000, 0b11111110] = .ok (.bneRel 0xFE) [] ∧
  decode [0b01101100, 0b11111111, 0b00110000] = .ok (.jmpInd 0x30FF) [] ∧
  decode [0b00001000] = .ok .php [] ∧
  decode [0b00000000, 0b11101010] = .ok .brk [0b11101010] ∧
  decode [0b01110011, 0b00100000] = .ok (.uRraIzyW 0x20) []

/-- The decoder reads `i` from a byte stream exactly when the stream begins with the encoding of
`i`, for every instruction and every operand value: decode of encode is the instruction, and every
word has one meaning (30_encoding.md R52 to R54, R60). -/
def Obligations.DecodeInvertsEncode : Prop :=
  ∀ (bs rest : List Byte) (i : Instr), decode bs = .ok i rest ↔ bs = encode i ++ rest

/-- The opcode bytes the decoder rejects are exactly the 25 of 30_encoding.md R58, whatever
follows, and it rejects them by name (R60). Which bytes are absent is the spec's decision D1. -/
def Obligations.RejectedBytesAreTheAbsent25 : Prop :=
  ∀ (b : Byte) (bs : List Byte), decode (b :: bs) = .unknownOpcode b ↔ b ∈ absentBytes

/-- The registry has 231 entries and none of the defects of 60_exceptions.md R203, and a lookup
answers an entry of the registry for the byte asked, the only one there is (30_encoding.md R50,
R51). Its contents are the spec's decision D1. -/
def Obligations.RegistryHasNoDefects : Prop :=
  registry.length = 231 ∧ registryDefects registry = [] ∧
  ∀ (b : Byte) (e : OpcodeEntry), lookup b = some e ↔ (e ∈ registry ∧ e.opcode = b)

/-- The registry entry of every instruction's opcode says its mnemonic, its mode, its length in
bytes and its base cost, and marks the page-cross penalty exactly on the three modes that honour
it and the branch penalty exactly on Relative. The base cost is the one the tables give the
mnemonic's class in that mode: reading forms 2 to 6, stores 3 to 6, read-modify-write 5 to 8,
jumps, stack and exception instructions each their own (30_encoding.md R51, R53, R56, R57, R64,
40_step_and_addressing.md R87). The numbers are the spec's decisions D1 and D15. -/
def Obligations.RegistryDescribesEveryInstruction : Prop :=
  ∀ i : Instr, ∃ e, lookup i.opcode = some e ∧ e.op = i.op ∧ e.mode = i.form.mode ∧
    e.len = (encode i).length ∧ e.cycles = i.baseCycles ∧ 2 ≤ e.cycles ∧ e.cycles ≤ 8 ∧
    i.baseCycles = specCost i.op i.form.mode ∧
    (e.penalty = .pageCross ↔ paysPageCross e.mode = true) ∧
    (e.penalty = .branch ↔ e.mode = .relative)

/-! ### The step -/

/-- When the environment has made its moves at the boundary, no interrupt is due, and the bytes the
Bus answers at `PC`, `PC+1`, `PC+2` decode to `i`, the step is `exec i` at the state after the Bus
reads of the bytes `i` has, opcode first (40_step_and_addressing.md R70, R71; that byte 1 is read
before byte 2, each once, is the spec's decision D27). R71 leaves the operand bytes to the resolver
or the instruction; that all of them are read before `exec` runs is the model's own division, log
entry 8, with the same Bus events. That moves and answers stand in the state is the model's own,
log entries 1 and 5. -/
def Obligations.StepRunsTheDecodedInstruction : Prop :=
  ∀ (s : State) (i : Instr) (rest : List Byte), s.AtInstruction →
    let o := openBoundary s
    let b0 := o.answerAt 0 s.pc
    let b1 := o.answerAt 1 (s.pc + 1)
    let b2 := o.answerAt 2 (s.pc + 2)
    decode [b0, b1, b2] = .ok i rest →
    step s = exec i { o with
      answers := s.answers.drop i.len
      bus := s.bus ++
        [BusEvent.read s.pc b0, .read (s.pc + 1) b1, .read (s.pc + 2) b2].take i.len }

/-- When the environment has made its moves at the boundary, no interrupt is due, and the byte the
Bus answers at `PC` is absent, the step is the fault `unknownOpcode` that names the address and the
byte; the final state is Halted, has the one opcode read in its history, and is otherwise that of
the opened boundary: no register, no flag, no memory, no cycle changed (60_exceptions.md R200; that
no tick is charged and PC stays is the spec's decision D23; the fault outcome is log entry 11, the
environment's moves are log entry 5). -/
def Obligations.StepFaultsOnAbsentOpcode : Prop :=
  ∀ s : State, s.AtInstruction →
    let o := openBoundary s
    o.answerAt 0 s.pc ∈ absentBytes →
    step s = .fault (.unknownOpcode s.pc (o.answerAt 0 s.pc) { o with
      run := .halted s.pc (o.answerAt 0 s.pc)
      answers := s.answers.drop 1
      bus := s.bus ++ [.read s.pc (o.answerAt 0 s.pc)] })

/-- There is no other stop. A step never refuses. It faults as `halted` exactly when the core is
Halted. It faults as `unknownOpcode` only from Idle with no interrupt due, naming `PC` and the byte
the Bus answers there, which is absent, and leaves a Halted state. From Idle it answers a next state
exactly when an interrupt is due or that byte is not absent (60_exceptions.md R200, R201, R204,
10_state.md R24; the Halted state is the spec's decision D23, the two fault outcomes are the model's
own, log entry 11, and so are the environment's moves at the boundary, log entry 5). -/
def Obligations.StepStopsOnlyOnAbsentOpcode : Prop :=
  ∀ s : State,
    let o := openBoundary s
    let b := o.answerAt 0 s.pc
    (∀ r, step s ≠ .refused r) ∧
    (∀ pc c, step s = .fault (.halted pc c) ↔ s.run = .halted pc c) ∧
    (∀ pc c t, step s = .fault (.unknownOpcode pc c t) →
      s.run = .idle ∧ interruptDue o = false ∧ pc = s.pc ∧ c = b ∧ b ∈ absentBytes ∧
      t.run = .halted pc c ∧ t.pc = pc) ∧
    (s.run = .idle → ((∃ t, step s = .next t) ↔ interruptDue o = true ∨ b ∉ absentBytes))

/-- At a boundary with an NMI pending, after the environment's moves there, the step is the NMI
entry, whatever `P.I`, the IRQ line and the byte at `PC` are: `PC` high, `PC` low and the status
with bit 5 set and bit 4 clear are pushed, `P.I` is set, `PC` is read from 0xFFFA, 7 cycles are
charged, the request is cleared, and nothing else changes (60_exceptions.md R205, R206, R208, R210,
70_reset_and_hazards.md R240; the spec's decisions D7, D8, D9; that the moves stand in the state is
the model's own, log entry 5). -/
def Obligations.NmiEntryStep : Prop :=
  ∀ s : State,
    let o := openBoundary s
    s.run = .idle → o.nmiPending = true →
    ∃ t, step s = .next t ∧
      t.regs = { s.regs with
        sp := s.sp - 3, pc := o.pointerAt 0 0xFFFA 0xFFFB, p := { s.p with i := true } } ∧
      t.bus = s.bus ++ [.write (stackAddr s.sp) (highByte s.pc),
        .write (stackAddr (s.sp - 1)) (lowByte s.pc),
        .write (stackAddr (s.sp - 2)) ((s.p.pack false &&& 0xEF) ||| 0x20),
        .read 0xFFFA (o.answerAt 0 0xFFFA), .read 0xFFFB (o.answerAt 1 0xFFFB), .tick 7] ∧
      t.cyc = s.cyc + 7 ∧ t.nmiPending = false ∧ t.irqLine = o.irqLine ∧ t.run = .idle ∧
      t.schedule = s.schedule.tail ∧
      (∀ a, a ∉ [stackAddr s.sp, stackAddr (s.sp - 1), stackAddr (s.sp - 2)] →
        t.peek a = o.peek a)

/-- At a boundary with no NMI pending, the IRQ line active after the environment's moves there, and
`P.I = 0`, the step is the IRQ entry: as the NMI entry but through 0xFFFE, and the line stays as the
environment drives it (60_exceptions.md R205, R207, R208, 70_reset_and_hazards.md R240; the spec's
decisions D7, D8, D9; that the moves stand in the state is the model's own, log entry 5). -/
def Obligations.IrqEntryStep : Prop :=
  ∀ s : State,
    let o := openBoundary s
    s.run = .idle → o.nmiPending = false → o.irqLine = true → s.p.i = false →
    ∃ t, step s = .next t ∧
      t.regs = { s.regs with
        sp := s.sp - 3, pc := o.pointerAt 0 0xFFFE 0xFFFF, p := { s.p with i := true } } ∧
      t.bus = s.bus ++ [.write (stackAddr s.sp) (highByte s.pc),
        .write (stackAddr (s.sp - 1)) (lowByte s.pc),
        .write (stackAddr (s.sp - 2)) ((s.p.pack false &&& 0xEF) ||| 0x20),
        .read 0xFFFE (o.answerAt 0 0xFFFE), .read 0xFFFF (o.answerAt 1 0xFFFF), .tick 7] ∧
      t.cyc = s.cyc + 7 ∧ t.nmiPending = false ∧ t.irqLine = true ∧ t.run = .idle ∧
      t.schedule = s.schedule.tail ∧
      (∀ a, a ∉ [stackAddr s.sp, stackAddr (s.sp - 1), stackAddr (s.sp - 2)] →
        t.peek a = o.peek a)

/-- The environment's moves at a boundary are made in order, each doing what it says: an NMI edge
sets the request, an IRQ level sets the line, a poke changes one cell; with nothing scheduled a
boundary changes nothing. One NMI edge or several among the moves of a boundary give the one NMI
entry there, through 0xFFFA and with its three pushes, and leave no request behind; the rest of the
schedule is kept (60_exceptions.md R205, R206, R208, 70_reset_and_hazards.md R240, R247; the spec's
decisions D7, D8, D9; that the environment's moves stand in the state is the model's own, log entry
5). -/
def Obligations.NmiEdgesGiveOneEntry : Prop :=
  (∀ s : State, s.schedule = [] → openBoundary s = s) ∧
  (∀ (s : State) (later : List (List EnvMove)),
    openBoundary { s with schedule := [] :: later } = { s with schedule := later }) ∧
  (∀ (s : State) (moves : List EnvMove) (later : List (List EnvMove)),
    openBoundary { s with schedule := (.nmiEdge :: moves) :: later } =
      openBoundary { s with nmiPending := true, schedule := moves :: later }) ∧
  (∀ (s : State) (level : Bool) (moves : List EnvMove) (later : List (List EnvMove)),
    openBoundary { s with schedule := (.irqLevel level :: moves) :: later } =
      openBoundary { s with irqLine := level, schedule := moves :: later }) ∧
  (∀ (s : State) (a : Addr) (v : Byte) (moves : List EnvMove) (later : List (List EnvMove)),
    openBoundary { s with schedule := (.poke a v :: moves) :: later } =
      openBoundary { s with mem := Memory.write s.mem a.toNat v, schedule := moves :: later }) ∧
  (∀ (s : State) (moves : List EnvMove) (later : List (List EnvMove)), s.run = .idle →
    s.schedule = moves :: later → EnvMove.nmiEdge ∈ moves →
    let o := openBoundary s
    ∃ t, step s = .next t ∧
      t.regs = { s.regs with
        sp := s.sp - 3, pc := o.pointerAt 0 0xFFFA 0xFFFB, p := { s.p with i := true } } ∧
      t.bus = s.bus ++ [.write (stackAddr s.sp) (highByte s.pc),
        .write (stackAddr (s.sp - 1)) (lowByte s.pc),
        .write (stackAddr (s.sp - 2)) ((s.p.pack false &&& 0xEF) ||| 0x20),
        .read 0xFFFA (o.answerAt 0 0xFFFA), .read 0xFFFB (o.answerAt 1 0xFFFB), .tick 7] ∧
      t.cyc = s.cyc + 7 ∧ t.nmiPending = false ∧ t.schedule = later)

/-! ### Every instruction -/

/-- Every instruction completes, in every state: exec answers a next state, which leaves the run
state, the NMI request, the IRQ line and the schedule as they are
(40_step_and_addressing.md R72, 60_exceptions.md R201, R205, R215). -/
def Obligations.EveryInstructionCompletes : Prop :=
  ∀ (i : Instr) (s : State), ∃ t, exec i s = .next t ∧ EnvironmentUnchanged s t

/-- Every instruction charges its base cost, one more for a page crossing in a mode that honours
the penalty, and for a taken branch one or two more, to `cyc` and to the Bus alike; the tick of the
base cost and the branch penalty is its last Bus event, and the only other tick there can be is the
`Tick(1)` of a page crossing (20_memory.md R32, 40_step_and_addressing.md R87, R88, R91,
70_reset_and_hazards.md R237; the numbers are the spec's decision D15, the order D14). -/
def Obligations.EveryInstructionChargesItsCycles : Prop :=
  ∀ (i : Instr) (s : State), ∃ t pre, exec i s = .next t ∧
    t.bus = s.bus ++ pre ++ [.tick (i.baseCycles + branchExtra i s)] ∧
    pre.filterMap (fun e => match e with
      | .tick n => some n
      | .read _ _ => none
      | .write _ _ => none) = (if paysExtra i s then [1] else []) ∧
    t.cyc = s.cyc + (i.baseCycles + (if paysExtra i s then 1 else 0) + branchExtra i s)

/-- Only a taken branch, JMP, JSR, RTS, RTI and BRK override the program counter; every other
instruction, a not-taken branch among them, leaves it at `pc0 + len` modulo 65536
(40_step_and_addressing.md R90). -/
def Obligations.ProgramCounterAdvances : Prop :=
  ∀ (i : Instr) (s : State), i.op ∉ [.jmp, .jsr, .rts, .rti, .brk] → branchTaken i s.p = false →
    ∃ t, exec i s = .next t ∧ t.pc = s.pc + BitVec.ofNat 16 (encode i).length

/-- The "written by" column of 10_state.md R10: an instruction that changes `A`, `X`, `Y` or `SP`
is one of those listed for the register. -/
def Obligations.RegistersWrittenOnlyByListed : Prop :=
  ∀ (i : Instr) (s t : State), exec i s = .next t →
    (t.a ≠ s.a → i.op ∈ [.lda, .pla, .txa, .tya, .and, .ora, .eor, .adc, .sbc, .uLax, .uSbc,
      .uIsb, .uSlo, .uRla, .uSre, .uRra] ∨ (i.op ∈ shiftOps ∧ i.form = .accumulator)) ∧
    (t.x ≠ s.x → i.op ∈ [.ldx, .tax, .tsx, .inx, .dex, .uLax]) ∧
    (t.y ≠ s.y → i.op ∈ [.ldy, .tay, .iny, .dey]) ∧
    (t.sp ≠ s.sp → i.op ∈ [.txs, .pha, .php, .pla, .plp, .jsr, .rts, .brk, .rti])

/-- The "written by" lists of 10_state.md R16 to R20: an instruction that changes a flag is one of
those listed for it. Which instructions the lists hold is partly the spec's general knowledge. -/
def Obligations.FlagsWrittenOnlyByListed : Prop :=
  ∀ (i : Instr) (s t : State), exec i s = .next t →
    (t.p.c ≠ s.p.c → i.op ∈ [.adc, .sbc, .uSbc, .asl, .lsr, .rol, .ror, .cmp, .cpx, .cpy, .clc,
      .sec, .plp, .rti, .uDcp, .uIsb, .uSlo, .uRla, .uSre, .uRra]) ∧
    (t.p.d ≠ s.p.d → i.op ∈ [.sed, .cld, .plp, .rti]) ∧
    (t.p.i ≠ s.p.i → i.op ∈ [.sei, .cli, .plp, .rti, .brk]) ∧
    (t.p.v ≠ s.p.v → i.op ∈ [.adc, .sbc, .uSbc, .uIsb, .uRra, .bit, .clv, .plp, .rti]) ∧
    ((t.p.z ≠ s.p.z ∨ t.p.n ≠ s.p.n) → i.op ∈ [.and, .ora, .eor, .adc, .sbc, .inc, .dec, .inx,
      .iny, .dex, .dey, .asl, .lsr, .rol, .ror, .lda, .ldx, .ldy, .tax, .tay, .txa, .tya, .tsx,
      .pla, .cmp, .cpx, .cpy, .uLax, .uSbc, .uDcp, .uIsb, .uSlo, .uRla, .uSre, .uRra, .bit, .plp,
      .rti])

/-- Every byte of memory outside the addresses an instruction stores to reads as before, and the
Bus writes of the instruction go to exactly those addresses, in that order: the effective address
of a store or read-modify-write, the stack slots of a push, JSR or BRK, and none for any other form
(20_memory.md R32, R38, 40_step_and_addressing.md R89; the stack is the spec's decision D5). -/
def Obligations.StoresGoOnlyToTheStoredAddresses : Prop :=
  ∀ (i : Instr) (s : State), ∃ t new, exec i s = .next t ∧ t.bus = s.bus ++ new ∧
    new.filterMap (fun e => match e with
      | .write a _ => some a
      | .read _ _ => none
      | .tick _ => none) = storedAddrs i s ∧
    ∀ a, a ∉ storedAddrs i s → t.peek a = s.peek a

/-- `P.D` is inert: an instruction that neither writes it nor pushes the status does the same
whatever it holds, ADC and SBC among them (10_state.md R17, 42_arithmetic.md R119; the spec's
decision D21). -/
def Obligations.DecimalFlagIsInert : Prop :=
  ∀ (i : Instr) (s t : State) (d : Bool), i.op ∉ [.php, .brk, .plp, .rti, .sed, .cld] →
    exec i s = .next t →
    exec i { s with p := { s.p with d := d } } = .next { t with p := { t.p with d := d } }

/-- No register, flag or memory result of a step depends on the cycle counter or on what the Bus
has seen before: a step from the same state with another counter and another history answers the
same next state, with the counter further on by the same amount and the same new events
(10_state.md R23, 70_reset_and_hazards.md R236). -/
def Obligations.CycleCounterIsInert : Prop :=
  ∀ (s t : State) (cyc : Nat) (bus : List BusEvent), step s = .next t →
    ∃ n new, t.cyc = s.cyc + n ∧ t.bus = s.bus ++ new ∧
      step { s with cyc := cyc, bus := bus } = .next { t with cyc := cyc + n, bus := bus ++ new }

/-! ### Addressing -/

/-- Address resolution never writes a flag (40_step_and_addressing.md R93), nor any register or
memory: it reads the Bus at the two pointer bytes of the forms that have a pointer, low byte first
(R83 to R85), and does nothing else. R92 counts the reads of the operand bytes among the resolver's
too; that they are the fetch's is the model's own division, log entry 8. -/
def Obligations.ResolutionWritesNothing : Prop :=
  ∀ (f : AddrForm) (s : State), (resolveForm f s).2 = { s with
    answers := s.answers.drop (pointerAddrs f s).length
    bus := s.bus ++ (pointerAddrs f s).mapIdx (fun k a => BusEvent.read a (s.answerAt k a)) }

/-- The zero-page modes: the index addition wraps in the zero page, and the page never crosses
(40_step_and_addressing.md R77, R78, R79). The operand byte those rules read has been read by the
fetch, so that the state stays as it is: the model's own division, log entry 8. -/
def Obligations.ZeroPageModesStayInPageZero : Prop :=
  ∀ (z : Byte) (s : State),
    resolve (.zeroPage z) s = (⟨BitVec.ofNat 16 z.toNat, false⟩, s) ∧
    resolve (.zeroPageX z) s = (⟨BitVec.ofNat 16 ((z.toNat + s.x.toNat) % 256), false⟩, s) ∧
    resolve (.zeroPageY z) s = (⟨BitVec.ofNat 16 ((z.toNat + s.y.toNat) % 256), false⟩, s)

/-- The absolute modes: the sum wraps modulo 65536; the plain indexed modes report a page crossing
exactly when the 256-byte block changed, the write variants always
(40_step_and_addressing.md R80, R81, R82). The two operand bytes have been read by the fetch, so
that the state stays as it is: the model's own division, log entry 8. -/
def Obligations.AbsoluteModesAddTheIndex : Prop :=
  ∀ (a : Addr) (s : State),
    let at_ := fun (k : Byte) => BitVec.ofNat 16 ((a.toNat + k.toNat) % 65536)
    let crosses := fun (k : Byte) =>
      decide (a.toNat / 256 ≠ (a.toNat + k.toNat) % 65536 / 256)
    resolve (.absolute a) s = (⟨a, false⟩, s) ∧
    resolve (.absoluteX a) s = (⟨at_ s.x, crosses s.x⟩, s) ∧
    resolve (.absoluteY a) s = (⟨at_ s.y, crosses s.y⟩, s) ∧
    resolve (.absoluteXWrite a) s = (⟨at_ s.x, true⟩, s) ∧
    resolve (.absoluteYWrite a) s = (⟨at_ s.y, true⟩, s)

/-- The pointer modes: `(zp,X)` adds the index before it reads the pointer, `(zp),Y` after; both
bytes of the pointer come from the zero page, low byte first, the second wrapping from 0x00FF to
0x0000 (20_memory.md R36, 40_step_and_addressing.md R83, R84; the wrap is the spec's decision
D20). The operand byte has been read by the fetch: the model's own division, log entry 8. -/
def Obligations.PointerModesReadTheZeroPage : Prop :=
  ∀ (z : Byte) (s : State),
    let zp := fun (k : Byte) => BitVec.ofNat 16 k.toNat
    let reads := fun (k : Byte) => { s with
      answers := s.answers.drop 2
      bus := s.bus ++ [.read (zp k) (s.answerAt 0 (zp k)),
        .read (zp (k + 1)) (s.answerAt 1 (zp (k + 1)))] }
    let base := s.pointerAt 0 (zp z) (zp (z + 1))
    let crosses := decide (base.toNat / 256 ≠ (base.toNat + s.y.toNat) % 65536 / 256)
    let sum := BitVec.ofNat 16 ((base.toNat + s.y.toNat) % 65536)
    resolve (.indexedIndirect z) s =
      (⟨s.pointerAt 0 (zp (z + s.x)) (zp (z + s.x + 1)), false⟩, reads (z + s.x)) ∧
    resolve (.indirectIndexed z) s = (⟨sum, crosses⟩, reads z) ∧
    resolve (.indirectIndexedWrite z) s = (⟨sum, true⟩, reads z)

/-- The indirect-jump pointer: the high byte is read from the next address, or from the start of
the same page when the pointer's low byte is 0xFF; elsewhere it is the plain 16-bit read. The
Indirect mode resolves by it (20_memory.md R37). -/
def Obligations.IndirectPointerWrapsInItsPage : Prop :=
  ∀ (p : Addr) (s : State),
    let hi := if p.toNat % 256 = 255 then p - 255 else p + 1
    read16Wrap p s = (s.pointerAt 0 p hi, { s with
      answers := s.answers.drop 2
      bus := s.bus ++ [.read p (s.answerAt 0 p), .read hi (s.answerAt 1 hi)] }) ∧
    (p.toNat % 256 ≠ 255 → read16Wrap p s = read16 p s) ∧
    resolve (.indirect p) s = (⟨(read16Wrap p s).1, false⟩, (read16Wrap p s).2)

/-- The Bus events of the operand access classes, after those of the resolver and the page-cross
tick: a read instruction reads its effective address once, a write instruction writes it once and
does not read it, a read-modify-write instruction reads it once and then writes it once; the tick
of the step ends each. The operand read is what the Bus answers there, after the two pointer reads
of the modes that have them; the byte written is the one memory then holds there (20_memory.md R32, R41, 40_step_and_addressing.md R89; no dummy access
is the spec's decision D13). -/
def Obligations.AccessClassesDriveTheBus : Prop :=
  ∀ (i : Instr) (m : MemForm) (s : State), i.form = .mem m → i.op ≠ .jmp → i.op ≠ .jsr →
    ∃ t v w, exec i s = .next t ∧ t.bus = s.bus ++
      ((resolve m s).2.bus.drop s.bus.length ++ (if paysExtra i s then [.tick 1] else [])) ++
      (if i.op ∈ [.sta, .stx, .sty, .uSax] then [.write (eaOf i s) w]
       else if i.op ∈ storingOps ∨ i.op ∈ shiftOps then
         [.read (eaOf i s) v, .write (eaOf i s) w]
       else [.read (eaOf i s) v]) ++ [.tick i.baseCycles] ∧
      (i.op ∉ [.sta, .stx, .sty, .uSax] → v = operandOf i s ∧
        v = s.answerAt (if m.mode ∈ [.indexedIndirect, .indirectIndexed, .indirectIndexedWrite]
          then 2 else 0) (eaOf i s)) ∧
      (Memory.wf s.mem = true → i.op ∈ storingOps ∨ i.op ∈ shiftOps → w = t.peek (eaOf i s))

/-! ### Logical, arithmetic, shift -/

/-- AND, ORA, EOR in each of their eight modes: `A` becomes the bitwise combination, zero and
negative follow it, and every other register, every other flag and all of memory stay. The
immediate forms access no data: after the fetch the Bus sees their tick of 2 and nothing else
(41_logical.md R100 to R103, 40_step_and_addressing.md R89; the spec's decisions D13, D15). -/
def Obligations.LogicalOpsCombineIntoA : Prop :=
  ∀ (i : Instr) (s : State), i.op ∈ [.and, .ora, .eor] →
    let m := operandOf i s
    let r := if i.op = .and then s.a &&& m else if i.op = .ora then s.a ||| m else s.a ^^^ m
    i.form.mode ∈ [.immediate, .zeroPage, .zeroPageX, .absolute, .absoluteX, .absoluteY,
      .indexedIndirect, .indirectIndexed] ∧
    ∃ t, exec i s = .next t ∧
      t.regs = { s.regs with
        a := r, p := znOf r s.p, pc := s.pc + BitVec.ofNat 16 (encode i).length } ∧
      MemoryUnchanged s t ∧
      (∀ v, i.form = .immediate v → t.bus = s.bus ++ [.tick 2])

/-- BIT has the encodings 0x24 ZeroPage and 0x2C Absolute and no other; it sets zero from the
operand and the accumulator, negative and overflow from bits 7 and 6 of the operand, charges 3 or 4
cycles, and leaves `A`, every other register and flag, and memory alone (41_logical.md R104; the
opcode bytes and the costs are the spec's decisions D1 and D15). -/
def Obligations.BitTestsWithoutChangingA : Prop :=
  ∀ (i : Instr) (s : State), i.op = .bit →
    ((i.opcode = 0x24 ∧ i.form.mode = .zeroPage ∧ i.baseCycles = 3) ∨
      (i.opcode = 0x2C ∧ i.form.mode = .absolute ∧ i.baseCycles = 4)) ∧
    ∃ t, exec i s = .next t ∧
      t.regs = { s.regs with
        pc := s.pc + BitVec.ofNat 16 (encode i).length
        p := { s.p with
          z := decide (operandOf i s &&& s.a = 0)
          n := decide (128 ≤ (operandOf i s).toNat)
          v := decide (64 ≤ (operandOf i s).toNat % 128) } } ∧
      t.bus = s.bus ++ [.read (eaOf i s) (operandOf i s), .tick i.baseCycles] ∧
      t.cyc = s.cyc + i.baseCycles ∧ MemoryUnchanged s t

/-- ADC in each of its eight modes: the result is the sum with carry modulo 256, carry says that
the sum exceeds 255, overflow that the signed sum leaves -128 to 127, zero and negative follow the
result, and nothing else changes. The immediate form accesses no data: after the fetch the Bus sees
its tick of 2 and nothing else (42_arithmetic.md R110, R111, 40_step_and_addressing.md R89; the
spec's decisions D13, D15, D32). -/
def Obligations.AdcAddsWithCarry : Prop :=
  ∀ (i : Instr) (s : State), i.op = .adc →
    let m := operandOf i s
    let sum := s.a.toNat + m.toNat + s.p.c.toNat
    let r := BitVec.ofNat 8 sum
    ∃ t, exec i s = .next t ∧
      t.regs = { s.regs with
        a := r
        pc := s.pc + BitVec.ofNat 16 (encode i).length
        p := znOf r { s.p with
          c := decide (255 < sum)
          v := outOfSignedRange (signedByte s.a + signedByte m + (s.p.c.toNat : Int)) } } ∧
      MemoryUnchanged s t ∧
      (∀ v, i.form = .immediate v → t.bus = s.bus ++ [.tick 2])

/-- SBC in each of its eight modes and *SBC: `A - M - (1 - C)` modulo 256; carry says that no borrow
occurred, overflow that the signed difference leaves -128 to 127, and nothing else changes. The
immediate forms access no data: after the fetch the Bus sees their tick of 2 and nothing else
(42_arithmetic.md R112, 49_undocumented.md R189, 40_step_and_addressing.md R89; the spec's decisions
D13, D15, D32). -/
def Obligations.SbcSubtractsWithBorrow : Prop :=
  ∀ (i : Instr) (s : State), i.op = .sbc ∨ i.op = .uSbc →
    let m := operandOf i s
    let borrow := 1 - s.p.c.toNat
    let r := s.a - m - BitVec.ofNat 8 borrow
    ∃ t, exec i s = .next t ∧
      t.regs = { s.regs with
        a := r
        pc := s.pc + BitVec.ofNat 16 (encode i).length
        p := znOf r { s.p with
          c := decide (m.toNat + borrow ≤ s.a.toNat)
          v := outOfSignedRange (signedByte s.a - signedByte m - (borrow : Int)) } } ∧
      MemoryUnchanged s t ∧
      (∀ v, i.form = .immediate v → t.bus = s.bus ++ [.tick 2])

/-- INC and DEC: the byte at the effective address is incremented or decremented modulo 256, zero
and negative follow it, carry, overflow and the registers stay, and no other byte of memory changes
(42_arithmetic.md R113, R114). -/
def Obligations.IncDecChangeOneByte : Prop :=
  ∀ (i : Instr) (s : State), Memory.wf s.mem = true → i.op = .inc ∨ i.op = .dec →
    let m := operandOf i s
    let r := BitVec.ofNat 8 (if i.op = .inc then m.toNat + 1 else m.toNat + 255)
    ∃ t, exec i s = .next t ∧
      t.regs = { s.regs with
        pc := s.pc + BitVec.ofNat 16 (encode i).length, p := znOf r s.p } ∧
      OnlyByteChanged s t (eaOf i s) r

/-- INX, INY, DEX, DEY: the register is incremented or decremented modulo 256, zero and negative
follow it, nothing else changes, and the Bus sees the tick of 2 alone (42_arithmetic.md R115 to
R118, 40_step_and_addressing.md R89; the spec's decisions D13, D15). -/
def Obligations.IndexRegistersCount : Prop :=
  ∀ s : State,
    (∃ t, exec .inx s = .next t ∧ t.mem = s.mem ∧ t.bus = s.bus ++ [.tick 2] ∧
      t.regs = { s.regs with
        x := BitVec.ofNat 8 (s.x.toNat + 1), p := znOf (s.x + 1) s.p, pc := s.pc + 1 }) ∧
    (∃ t, exec .iny s = .next t ∧ t.mem = s.mem ∧ t.bus = s.bus ++ [.tick 2] ∧
      t.regs = { s.regs with
        y := BitVec.ofNat 8 (s.y.toNat + 1), p := znOf (s.y + 1) s.p, pc := s.pc + 1 }) ∧
    (∃ t, exec .dex s = .next t ∧ t.mem = s.mem ∧ t.bus = s.bus ++ [.tick 2] ∧
      t.regs = { s.regs with
        x := BitVec.ofNat 8 (s.x.toNat + 255), p := znOf (s.x - 1) s.p, pc := s.pc + 1 }) ∧
    (∃ t, exec .dey s = .next t ∧ t.mem = s.mem ∧ t.bus = s.bus ++ [.tick 2] ∧
      t.regs = { s.regs with
        y := BitVec.ofNat 8 (s.y.toNat + 255), p := znOf (s.y - 1) s.p, pc := s.pc + 1 })

/-- ASL, LSR, ROL, ROR on the accumulator: `A` and carry become the shifted byte and the bit shifted
out, zero and negative follow the byte, there is no Bus access but the tick, and nothing else
changes (43_shift_rotate.md R120 to R124). -/
def Obligations.ShiftsWorkOnA : Prop :=
  ∀ (i : Instr) (s : State), i.op ∈ shiftOps → i.form = .accumulator →
    let r := shiftSpec i.op s.p.c s.a
    ∃ t, exec i s = .next t ∧
      t.regs = { s.regs with
        a := r.1, pc := s.pc + 1, p := znOf r.1 { s.p with c := r.2 } } ∧
      t.bus = s.bus ++ [.tick 2] ∧ MemoryUnchanged s t

/-- ASL, LSR, ROL, ROR on memory: the byte at the effective address and carry become the shifted
byte and the bit shifted out, zero and negative follow the byte, `A` and the other registers and
flags stay, and no other byte of memory changes (43_shift_rotate.md R120 to R124). -/
def Obligations.ShiftsWorkOnMemory : Prop :=
  ∀ (i : Instr) (s : State), Memory.wf s.mem = true → i.op ∈ shiftOps → i.form ≠ .accumulator →
    let r := shiftSpec i.op s.p.c (operandOf i s)
    ∃ t, exec i s = .next t ∧
      t.regs = { s.regs with
        pc := s.pc + BitVec.ofNat 16 (encode i).length, p := znOf r.1 { s.p with c := r.2 } } ∧
      OnlyByteChanged s t (eaOf i s) r.1

/-! ### Loads, stores, transfers, compares -/

/-- LDA, LDX, LDY and *LAX load the operand into `A`, `X`, `Y`, or `A` and `X`, set zero and
negative from it, and change nothing else. The immediate forms access no data: after the fetch the
Bus sees their tick of 2 and nothing else (44_load_store_transfer.md R130 to R132,
49_undocumented.md R187, 40_step_and_addressing.md R89; the spec's decisions D13, D15). -/
def Obligations.LoadsSetRegisterAndZeroNegative : Prop :=
  ∀ (i : Instr) (s : State), i.op ∈ [.lda, .ldx, .ldy, .uLax] →
    let m := operandOf i s
    ∃ t, exec i s = .next t ∧
      t.regs = { s.regs with
        a := if i.op = .lda ∨ i.op = .uLax then m else s.a
        x := if i.op = .ldx ∨ i.op = .uLax then m else s.x
        y := if i.op = .ldy then m else s.y
        pc := s.pc + BitVec.ofNat 16 (encode i).length
        p := znOf m s.p } ∧
      MemoryUnchanged s t ∧
      (∀ v, i.form = .immediate v → t.bus = s.bus ++ [.tick 2])

/-- STA, STX, STY and *SAX store `A`, `X`, `Y` or `A AND X` at the effective address; no flag and no
register but `PC` changes, and no other byte of memory (44_load_store_transfer.md R133 to R135,
49_undocumented.md R188). -/
def Obligations.StoresWriteOneByteAndNoFlag : Prop :=
  ∀ (i : Instr) (s : State), Memory.wf s.mem = true → i.op ∈ [.sta, .stx, .sty, .uSax] →
    let v := if i.op = .sta then s.a else if i.op = .stx then s.x
      else if i.op = .sty then s.y else s.a &&& s.x
    ∃ t, exec i s = .next t ∧
      t.regs = { s.regs with pc := s.pc + BitVec.ofNat 16 (encode i).length } ∧
      OnlyByteChanged s t (eaOf i s) v

/-- TAX, TAY, TXA, TYA, TSX copy the register and set zero and negative from it; TXS copies `X` to
`SP` and sets no flag; nothing else changes, and the Bus sees the tick of 2 alone
(44_load_store_transfer.md R136 to R141, 40_step_and_addressing.md R89; the spec's decisions D13,
D15). -/
def Obligations.TransfersCopyRegisters : Prop :=
  ∀ s : State,
    let leads := fun (i : Instr) (r : Regs) => ∃ t, exec i s = .next t ∧ t.mem = s.mem ∧
      t.bus = s.bus ++ [.tick 2] ∧
      t.regs = { r with pc := s.pc + 1 }
    leads .tax { s.regs with x := s.a, p := znOf s.a s.p } ∧
    leads .tay { s.regs with y := s.a, p := znOf s.a s.p } ∧
    leads .txa { s.regs with a := s.x, p := znOf s.x s.p } ∧
    leads .tya { s.regs with a := s.y, p := znOf s.y s.p } ∧
    leads .tsx { s.regs with x := s.sp, p := znOf s.sp s.p } ∧
    leads .txs { s.regs with sp := s.x }

/-- CMP, CPX, CPY write only flags: carry is unsigned register >= operand, zero is equality,
negative is bit 7 of the difference; overflow, the registers and memory stay. The immediate forms
access no data: after the fetch the Bus sees their tick of 2 and nothing else
(45_compare.md R145 to R148, 40_step_and_addressing.md R89; the spec's decisions D13, D15, D32). -/
def Obligations.ComparesWriteOnlyFlags : Prop :=
  ∀ (i : Instr) (s : State), i.op ∈ [.cmp, .cpx, .cpy] →
    let m := operandOf i s
    let reg := if i.op = .cmp then s.a else if i.op = .cpx then s.x else s.y
    ∃ t, exec i s = .next t ∧
      t.regs = { s.regs with
        pc := s.pc + BitVec.ofNat 16 (encode i).length
        p := { s.p with
          c := decide (m.toNat ≤ reg.toNat)
          z := decide (reg = m)
          n := decide (128 ≤ (reg.toNat + (256 - m.toNat)) % 256) } } ∧
      MemoryUnchanged s t ∧
      (∀ v, i.form = .immediate v → t.bus = s.bus ++ [.tick 2])

/-! ### Branches and jumps -/

/-- The eight branches: taken on their flag, to the post-instruction address plus the signed
displacement modulo 65536, at 1 cycle more, or 2 where the target lies in another page; not taken,
to the next instruction at the base cost. No flag, no other register and no byte of memory changes
(46_branch_jump.md R150 to R158; the penalties are the spec's decision D16). -/
def Obligations.BranchesTestOneFlag : Prop :=
  ∀ (i : Instr) (s : State), i.op ∈ branchOps →
    let taken := (i.op = .bcc ∧ s.p.c = false) ∨ (i.op = .bcs ∧ s.p.c = true) ∨
      (i.op = .beq ∧ s.p.z = true) ∨ (i.op = .bne ∧ s.p.z = false) ∨
      (i.op = .bmi ∧ s.p.n = true) ∨ (i.op = .bpl ∧ s.p.n = false) ∨
      (i.op = .bvc ∧ s.p.v = false) ∨ (i.op = .bvs ∧ s.p.v = true)
    let next := (s.pc.toNat + 2) % 65536
    let target := (((next : Int) + signedByte (dispOf i)) % 65536).toNat
    ∃ t, exec i s = .next t ∧ MemoryUnchanged s t ∧
      (taken → t.regs = { s.regs with pc := BitVec.ofNat 16 target } ∧
        t.bus = s.bus ++ [.tick (if target / 256 = next / 256 then 3 else 4)]) ∧
      (¬ taken → t.regs = { s.regs with pc := BitVec.ofNat 16 next } ∧
        t.bus = s.bus ++ [.tick 2])

/-- JMP absolute goes to its operand; JMP indirect goes to the address its pointer holds, the high
byte read from the start of the same page when the pointer's low byte is 0xFF. Nothing else
changes (46_branch_jump.md R159, 20_memory.md R37). -/
def Obligations.JumpsSetTheProgramCounter : Prop :=
  ∀ (a : Addr) (s : State),
    (∃ t, exec (.jmpAbs a) s = .next t ∧ t.regs = { s.regs with pc := a } ∧
      t.mem = s.mem ∧ t.bus = s.bus ++ [.tick 3]) ∧
    (let hi := if a.toNat % 256 = 255 then a - 255 else a + 1
     ∃ t, exec (.jmpInd a) s = .next t ∧
      t.regs = { s.regs with pc := s.pointerAt 0 a hi } ∧ t.mem = s.mem ∧
      t.bus = s.bus ++ [.read a (s.answerAt 0 a), .read hi (s.answerAt 1 hi), .tick 5])

/-- JSR pushes the address of its last byte, high byte first, and jumps; only `SP`, `PC` and the two
stack bytes change (46_branch_jump.md R160; the stack is the spec's decision D5). -/
def Obligations.JsrPushesItsLastByte : Prop :=
  ∀ (a : Addr) (s : State), Memory.wf s.mem = true →
    let last := BitVec.ofNat 16 (s.pc.toNat + 2)
    ∃ t, exec (.jsrAbs a) s = .next t ∧
      t.regs = { s.regs with sp := s.sp - 2, pc := a } ∧
      t.bus = s.bus ++ [.write (stackAddr s.sp) (BitVec.ofNat 8 (last.toNat / 256)),
        .write (stackAddr (s.sp - 1)) (BitVec.ofNat 8 last.toNat), .tick 6] ∧
      t.peek (stackAddr s.sp) = BitVec.ofNat 8 (last.toNat / 256) ∧
      t.peek (stackAddr (s.sp - 1)) = BitVec.ofNat 8 last.toNat ∧
      ∀ b, b ∉ [stackAddr s.sp, stackAddr (s.sp - 1)] → t.peek b = s.peek b

/-- RTS pulls the low and then the high byte and continues one past that address; only `SP` and `PC`
change (46_branch_jump.md R161; the stack is the spec's decision D5). -/
def Obligations.RtsPullsAndAddsOne : Prop :=
  ∀ s : State,
    let lo := stackAddr (s.sp + 1)
    let hi := stackAddr (s.sp + 2)
    ∃ t, exec .rts s = .next t ∧
      t.regs = { s.regs with sp := s.sp + 2, pc := s.pointerAt 0 lo hi + 1 } ∧ t.mem = s.mem ∧
      t.bus = s.bus ++ [.read lo (s.answerAt 0 lo), .read hi (s.answerAt 1 hi), .tick 6]

/-! ### Stack and flags -/

/-- PHA pushes `A`; PHP pushes the register byte `P` with bits 4 and 5 set. The byte lies at the old
`SP` in page 1, `SP` goes down by one, and no flag, no other register and no other byte changes
(47_stack_and_flag.md R165, R166; the spec's decisions D4, D5). -/
def Obligations.PushesWriteTheStack : Prop :=
  ∀ s : State, Memory.wf s.mem = true →
    let after := fun (i : Instr) (v : Byte) => ∃ t, exec i s = .next t ∧
      t.regs = { s.regs with sp := s.sp - 1, pc := s.pc + 1 } ∧
      t.bus = s.bus ++ [.write (BitVec.ofNat 16 (256 + s.sp.toNat)) v, .tick 3] ∧
      OnlyByteChanged s t (BitVec.ofNat 16 (256 + s.sp.toNat)) v
    after .pha s.a ∧ after .php (s.pByte ||| 0x30)

/-- PLA pulls into `A` and sets zero and negative from it; PLP pulls the six flags, bits 4 and 5 of
the byte discarded. `SP` goes up by one, the byte is read at the new `SP` in page 1, and nothing
else changes (47_stack_and_flag.md R167, R168; the spec's decisions D4, D5). -/
def Obligations.PullsReadTheStack : Prop :=
  ∀ s : State,
    let slot := BitVec.ofNat 16 (256 + (s.sp + 1).toNat)
    let b := s.answerAt 0 slot
    let ends := fun (t : State) => t.mem = s.mem ∧ t.bus = s.bus ++ [.read slot b, .tick 4]
    (∃ t, exec .pla s = .next t ∧ ends t ∧
      t.regs = { s.regs with a := b, p := znOf b s.p, sp := s.sp + 1, pc := s.pc + 1 }) ∧
    (∃ t, exec .plp s = .next t ∧ ends t ∧ t.pByte = (b &&& 0xCF) ||| 0x20 ∧
      t.regs = { s.regs with p := t.p, sp := s.sp + 1, pc := s.pc + 1 })

/-- The seven flag instructions write the one flag they name and nothing else but `PC`
(47_stack_and_flag.md R169 to R175). -/
def Obligations.FlagOpsWriteOneFlag : Prop :=
  ∀ s : State,
    let leads := fun (i : Instr) (f : Flags) => ∃ t, exec i s = .next t ∧ t.mem = s.mem ∧
      t.regs = { s.regs with p := f, pc := s.pc + 1 } ∧ t.bus = s.bus ++ [.tick 2]
    leads .clc { s.p with c := false } ∧ leads .sec { s.p with c := true } ∧
    leads .cli { s.p with i := false } ∧ leads .sei { s.p with i := true } ∧
    leads .cld { s.p with d := false } ∧ leads .sed { s.p with d := true } ∧
    leads .clv { s.p with v := false }

/-- The unused bit: bit 5 of the register byte reads 1 in every state, whatever instruction ran
last; bit 5 of the byte PHP, BRK and the interrupt entries push is 1; and bit 5 of the byte PLP and
RTI pull is discarded: with that bit inverted they leave the same registers (10_state.md R22). -/
def Obligations.UnusedFlagBitAlwaysSet : Prop :=
  (∀ s : State, s.pByte &&& 0x20 = 0x20) ∧
  (∀ (s t : State) (i : Instr) (a : Addr) (v : Byte), i.op = .php → exec i s = .next t →
    BusEvent.write a v ∈ t.bus.drop s.bus.length → v &&& 0x20 = 0x20) ∧
  (∀ (s t : State) (a : Addr) (v : Byte), exec .brk s = .next t →
    t.bus[s.bus.length + 2]? = some (.write a v) → v &&& 0x20 = 0x20) ∧
  (∀ (s : State) (vec a : Addr) (v : Byte),
    (interruptEntry vec s).bus[s.bus.length + 2]? = some (.write a v) → v &&& 0x20 = 0x20) ∧
  (∀ (s t : State) (i : Instr) (b : Byte) (later : List (Option Byte)), i.op = .plp ∨ i.op = .rti →
    exec i { s with answers := some b :: later } = .next t →
    ∃ u, exec i { s with answers := some (b ^^^ 0x20) :: later } = .next u ∧ u.regs = t.regs)

/-! ### System and undocumented -/

/-- BRK takes its exception whatever `P.I` is: it pushes `pc0 + 2` high byte first and then the
status with bits 4 and 5 set, sets `P.I`, and continues at the address the 0xFFFE vector holds, at
7 cycles; `A`, `X`, `Y` and the other flags stay, and no other byte of memory changes
(48_system.md R180, 60_exceptions.md R201; the spec's decisions D4, D5, D6, D18, D21). -/
def Obligations.BrkEntersTheIrqVector : Prop :=
  ∀ s : State, Memory.wf s.mem = true →
    let ret := s.pc + 2
    ∃ t, exec .brk s = .next t ∧
      t.regs = { s.regs with
        sp := s.sp - 3, pc := s.pointerAt 0 0xFFFE 0xFFFF, p := { s.p with i := true } } ∧
      t.bus = s.bus ++ [.write (stackAddr s.sp) (highByte ret),
        .write (stackAddr (s.sp - 1)) (lowByte ret),
        .write (stackAddr (s.sp - 2)) (s.pByte ||| 0x30),
        .read 0xFFFE (s.answerAt 0 0xFFFE), .read 0xFFFF (s.answerAt 1 0xFFFF), .tick 7] ∧
      t.peek (stackAddr s.sp) = highByte ret ∧ t.peek (stackAddr (s.sp - 1)) = lowByte ret ∧
      t.peek (stackAddr (s.sp - 2)) = s.pByte ||| 0x30 ∧
      ∀ a, a ∉ [stackAddr s.sp, stackAddr (s.sp - 1), stackAddr (s.sp - 2)] →
        t.peek a = s.peek a

/-- RTI pulls the status, bits 4 and 5 discarded, then the program counter low byte first, with no
increment; only `P`, `SP` and `PC` change (48_system.md R181, 60_exceptions.md R211; the spec's
decisions D4, D5). -/
def Obligations.RtiRestoresStatusAndCounter : Prop :=
  ∀ s : State,
    let k1 := stackAddr (s.sp + 1)
    let k2 := stackAddr (s.sp + 2)
    let k3 := stackAddr (s.sp + 3)
    ∃ t, exec .rti s = .next t ∧ t.mem = s.mem ∧
      t.pByte = (s.answerAt 0 k1 &&& 0xCF) ||| 0x20 ∧
      t.regs = { s.regs with p := t.p, sp := s.sp + 3, pc := s.pointerAt 1 k2 k3 } ∧
      t.bus = s.bus ++ [.read k1 (s.answerAt 0 k1), .read k2 (s.answerAt 1 k2),
        .read k3 (s.answerAt 2 k3), .tick 6]

/-- NOP and every form of *NOP change no register but `PC`, no flag and no byte of memory.
The forms without a memory operand access no data: after the fetch the Bus sees their tick of 2 and
nothing else (48_system.md R182, 49_undocumented.md R186, 40_step_and_addressing.md R89; the spec's
decisions D13, D15). -/
def Obligations.NopsOnlyAdvance : Prop :=
  ∀ (i : Instr) (s : State), i.op = .nop ∨ i.op = .uNop →
    ∃ t, exec i s = .next t ∧ t.mem = s.mem ∧
      t.regs = { s.regs with pc := s.pc + BitVec.ofNat 16 (encode i).length } ∧
      (i.form = .implicit ∨ (∃ v, i.form = .immediate v) → t.bus = s.bus ++ [.tick 2])

/-- *DCP decrements the byte at the effective address and compares `A` with the result; *ISB
increments it and subtracts the result from `A` with borrow. No other byte and no other register or
flag changes (49_undocumented.md R190, R191; the spec's decisions D1, D32). -/
def Obligations.DcpAndIsbCombine : Prop :=
  ∀ (i : Instr) (s : State), Memory.wf s.mem = true → i.op = .uDcp ∨ i.op = .uIsb →
    let m := operandOf i s
    let pc := s.pc + BitVec.ofNat 16 (encode i).length
    let borrow := 1 - s.p.c.toNat
    ∃ t, exec i s = .next t ∧
      (i.op = .uDcp → OnlyByteChanged s t (eaOf i s) (m - 1) ∧
        t.regs = { s.regs with
          pc := pc
          p := znOf (s.a - (m - 1)) { s.p with c := decide ((m - 1).toNat ≤ s.a.toNat) } }) ∧
      (i.op = .uIsb → OnlyByteChanged s t (eaOf i s) (m + 1) ∧
        t.regs = { s.regs with
          pc := pc
          a := s.a - (m + 1) - BitVec.ofNat 8 borrow
          p := znOf (s.a - (m + 1) - BitVec.ofNat 8 borrow) { s.p with
            c := decide ((m + 1).toNat + borrow ≤ s.a.toNat)
            v := outOfSignedRange
              (signedByte s.a - signedByte (m + 1) - (borrow : Int)) } })

/-- *SLO, *RLA, *SRE shift or rotate the byte at the effective address and combine the result into
`A` by OR, AND, exclusive OR; *RRA rotates it right and adds it to `A` with the carry just rotated
out. Zero and negative follow the final `A`; no other byte, register or flag changes
(49_undocumented.md R192 to R195; the spec's decisions D1, D32). -/
def Obligations.ShiftCombinesIntoA : Prop :=
  ∀ (i : Instr) (s : State), Memory.wf s.mem = true → i.op ∈ [.uSlo, .uRla, .uSre, .uRra] →
    let shift := if i.op = .uSlo then Op.asl else if i.op = .uRla then .rol
      else if i.op = .uSre then .lsr else .ror
    let r := shiftSpec shift s.p.c (operandOf i s)
    let sum := s.a.toNat + r.1.toNat + r.2.toNat
    let a := if i.op = .uSlo then s.a ||| r.1 else if i.op = .uRla then s.a &&& r.1
      else if i.op = .uSre then s.a ^^^ r.1 else BitVec.ofNat 8 sum
    ∃ t, exec i s = .next t ∧ OnlyByteChanged s t (eaOf i s) r.1 ∧
      t.regs = { s.regs with
        a := a
        pc := s.pc + BitVec.ofNat 16 (encode i).length
        p := znOf a { s.p with
          c := if i.op = .uRra then decide (255 < sum) else r.2
          v := if i.op = .uRra then
              outOfSignedRange (signedByte s.a + signedByte r.1 + (r.2.toNat : Int))
            else s.p.v } }

/-! ### Round trips -/

/-- A subroutine returns: RTS from the state JSR leaves continues at the instruction after the JSR
with the stack pointer of before, when the Bus answers the two pulls from memory
(`answers = []`, log entry 1) (46_branch_jump.md R160, R161; the spec's decision D5). -/
def Obligations.RtsReturnsFromJsr : Prop :=
  ∀ (a : Addr) (s t : State), Memory.wf s.mem = true → s.answers = [] →
    exec (.jsrAbs a) s = .next t →
    ∃ u, exec .rts t = .next u ∧ u.regs = { s.regs with pc := s.pc + 3 }

/-- A handler returns, when the Bus answers the pulls from memory (`answers = []`, log entry 1):
RTI from the state an interrupt entry leaves resumes exactly at the
instruction not executed, with the flags and the stack pointer of before; RTI from the state BRK
leaves resumes two bytes on (60_exceptions.md R209, R211, 48_system.md R180; the spec's decisions
D5, D9, D18). -/
def Obligations.RtiResumesTheInterrupted : Prop :=
  ∀ (s : State), Memory.wf s.mem = true → s.answers = [] →
    (∀ vec, ∃ u, exec .rti (interruptEntry vec s) = .next u ∧ u.regs = s.regs) ∧
    (∀ t, exec .brk s = .next t →
      ∃ u, exec .rti t = .next u ∧ u.regs = { s.regs with pc := s.pc + 2 })

/-- What is pushed comes back: PLA after PHA restores `A`, and PLP after PHP restores every flag,
with the stack pointer of before, when the Bus answers the pull from memory (`answers = []`, log
entry 1) (47_stack_and_flag.md R165 to R168; the spec's decisions D4,
D5). -/
def Obligations.PullRestoresWhatPushSaved : Prop :=
  ∀ (s t : State) (a : Byte) (f : Flags), Memory.wf s.mem = true → s.answers = [] →
    (exec .pha s = .next t → ∃ u, exec .pla { t with a := a } = .next u ∧ u.a = s.a ∧
      u.sp = s.sp ∧ u.p = znOf s.a s.p) ∧
    (exec .php s = .next t → ∃ u, exec .plp { t with p := f } = .next u ∧ u.a = s.a ∧
      u.sp = s.sp ∧ u.p = s.p)

/-! ### The Bus, power-on, invariants, runs -/

/-- `Tick(n)` emits one tick event and advances `cyc` by `n`, together and with no other effect, and
no step emits `Tick(0)` (20_memory.md R33). -/
def Obligations.TicksAdvanceTheCycleCounter : Prop :=
  (∀ (n : Nat) (s : State), tick n s = { s with
    cyc := s.cyc + n, bus := s.bus ++ [.tick n] }) ∧
  (∀ (s t : State) (n : Nat), step s = .next t →
    BusEvent.tick n ∈ t.bus.drop s.bus.length → 1 ≤ n)

/-- Where the Bus answers reads from memory (`answers = []`, the model's own, log entry 1), a read
after a write to the same address gives the byte written, and a read of any other address is not
affected. A Bus may answer otherwise: a write is visible "to the extent the Bus returns what was
written there" (20_memory.md R31, R44). -/
def Obligations.ReadAfterWriteGivesTheByte : Prop :=
  ∀ (s : State) (a b : Addr) (v : Byte), Memory.wf s.mem = true → s.answers = [] →
    (memRead a (memWrite a v s)).1 = v ∧
    (b ≠ a → (memRead b (memWrite a v s)).1 = (memRead b s).1)

/-- Power-on over any platform: the register values of 70_reset_and_hazards.md R231, `PC` from the
RESET vector or from the `ResetPC` given, 7 cycles, nothing written; the platform's memory stays.
The values are the spec's decision D10. -/
def Obligations.PowerOnSetsTheResetValues : Prop :=
  ∀ (resetPC : Option Addr) (platform : State),
    let s := powerOn resetPC platform
    s.a = 0x00 ∧ s.x = 0x00 ∧ s.y = 0x00 ∧ s.sp = 0xFD ∧ s.pByte = 0x24 ∧
    s.nmiPending = false ∧ s.run = .idle ∧ s.cyc = 7 ∧ s.mem = platform.mem ∧
    (∀ pc, resetPC = some pc → s.pc = pc ∧ s.bus = [.tick 7]) ∧
    (resetPC = none → s.pc = platform.pointerAt 0 0xFFFC 0xFFFD ∧
      s.bus = [.read 0xFFFC (platform.answerAt 0 0xFFFC),
        .read 0xFFFD (platform.answerAt 1 0xFFFD), .tick 7])

/-- The reset state is the outcome of power-on over the empty platform and has the invariant. That
the platform is empty and answers 0x00, so that `PC` is 0x0000, and that the environment is quiet,
with the IRQ line false, no answers and no moves, is the model's choice, log entries 2, 3 and 4
(70_reset_and_hazards.md R230, R231; the spec's decision D10). -/
def Obligations.ResetHasTheInvariant : Prop :=
  State.reset = powerOn Config.resetPC State.reset ∧ State.Inv State.reset

/-- Every step keeps the invariant, from every state that has it: memory in canonical form, the
cycle counter equal to what was charged to the Bus since power-on, and no `Tick(0)`; so does the
final state of the unknown-opcode fault (10_state.md R23, 20_memory.md R33). -/
def Obligations.StepKeepsTheInvariant : Prop :=
  ∀ s : State, State.Inv s →
    (∀ t, step s = .next t → State.Inv t) ∧
    (∀ pc b t, step s = .fault (.unknownOpcode pc b t) → State.Inv t)

/-- Bus events are only ever added, and the cycle counter only grows: every step that answers a
next state extends the history by at least one event and charges 2 to 8 cycles
(10_state.md R23, 20_memory.md R32, 70_reset_and_hazards.md R237; the bounds rest on the spec's
decision D15). -/
def Obligations.HistoryOnlyGrows : Prop :=
  ∀ s t : State, step s = .next t →
    ∃ new, t.bus = s.bus ++ new ∧ new ≠ [] ∧ t.cyc = s.cyc + busTicks new ∧
      s.cyc + 2 ≤ t.cyc ∧ t.cyc ≤ s.cyc + 8

/-- The run budget: a run takes no step when `cyc` has already reached the budget `n`; otherwise,
with fuel for `n - cyc` cycles at 2 cycles a step, a run that ends normally ends with the budget
reached and passed by less than 8 cycles (70_reset_and_hazards.md R245; the comparison is the
spec's decision D22; the fuel, an environment that stops asking for steps, is the model's own
choice, log entry 12). -/
def Obligations.RunBudgetStopsAtABoundary : Prop :=
  ∀ (n fuel : Nat) (s : State),
    (n ≤ s.cyc → runLoop (some n) fuel s = .next s) ∧
    (∀ t, s.cyc < n → n ≤ s.cyc + 2 * fuel → runLoop (some n) fuel s = .next t →
      n ≤ t.cyc ∧ t.cyc < n + 8)
end

