-- ==== Sys2Proof/Laws/Bytes.lean ====
section
/-! SUPPORT. Bytes, addresses and the flag byte as numbers: the two halves of an address, and that
packing and unpacking the flags lose nothing but bits 4 and 5. -/

namespace Sys2Proof

theorem addrOfBytes_toNat (hi lo : Byte) :
    (addrOfBytes hi lo).toNat = 256 * hi.toNat + lo.toNat := by
  have h := lo.isLt
  unfold addrOfBytes
  rw [BitVec.toNat_append, ← Nat.shiftLeft_add_eq_or_of_lt h, Nat.shiftLeft_eq, Nat.mul_comm]

theorem lowByte_toNat (a : Addr) : (lowByte a).toNat = a.toNat % 256 :=
  BitVec.toNat_setWidth 8 a

theorem highByte_toNat (a : Addr) : (highByte a).toNat = a.toNat / 256 := by
  have h := a.isLt
  unfold highByte
  rw [BitVec.toNat_setWidth, BitVec.toNat_ushiftRight, Nat.shiftRight_eq_div_pow]
  exact Nat.mod_eq_of_lt (by omega)

@[simp] theorem addrOfBytes_high_low (a : Addr) : addrOfBytes (highByte a) (lowByte a) = a := by
  apply BitVec.eq_of_toNat_eq
  rw [addrOfBytes_toNat, highByte_toNat, lowByte_toNat]
  omega

@[simp] theorem lowByte_addrOfBytes (hi lo : Byte) : lowByte (addrOfBytes hi lo) = lo := by
  have := lo.isLt
  apply BitVec.eq_of_toNat_eq
  rw [lowByte_toNat, addrOfBytes_toNat]
  omega

@[simp] theorem highByte_addrOfBytes (hi lo : Byte) : highByte (addrOfBytes hi lo) = hi := by
  have := lo.isLt
  apply BitVec.eq_of_toNat_eq
  rw [highByte_toNat, addrOfBytes_toNat]
  omega

namespace Machine

@[simp] theorem Flags.unpack_pack (brk : Bool) (f : Flags) : Flags.unpack (Flags.pack brk f) = f := by
  obtain ⟨n, v, d, i, z, c⟩ := f
  revert brk n v d i z c
  decide

theorem Flags.pack_unpack (v : Byte) : Flags.pack false (Flags.unpack v) = (v &&& 0xCF) ||| 0x20 := by
  revert v
  decide +kernel

end Machine

end Sys2Proof
end

