-- ==== Sys2Proof/Laws/Exec.lean ====
section
/-! SUPPORT. Dispatch seen through the operand classes: what `exec` does depends on the
instruction only through its mnemonic, its operand form and its base cost, so that a fact about
all 231 constructors is a fact about one of ten actions. -/

namespace Sys2Proof.Machine

/-- The action a mnemonic stands for: the operand class of 40_step_and_addressing.md R89 with the
effect of its rule, or one of the instructions that set `PC` themselves. -/
inductive Action
  | read (act : Byte → State → State)
  | write (value : State → Byte)
  | rmw (new : State → Byte → Byte) (after : Byte → Byte → State → State)
  | implied (act : State → State)
  | branch (cond : Flags → Bool)
  | jump
  | jsr
  | rts
  | brk
  | rti

/-- The action of each mnemonic. -/
def actionOf : Op → Action
  | .and => .read andAcc | .ora => .read oraAcc | .eor => .read eorAcc | .bit => .read bitTest
  | .adc => .read adcAcc | .sbc => .read sbcAcc | .uSbc => .read sbcAcc
  | .lda => .read loadA | .ldx => .read loadX | .ldy => .read loadY | .uLax => .read loadAX
  | .cmp => .read cmpA | .cpx => .read cmpX | .cpy => .read cmpY | .uNop => .read discard
  | .sta => .write State.a | .stx => .write State.x | .sty => .write State.y
  | .uSax => .write saxByte
  | .inc => .rmw incByte incFlags | .dec => .rmw decByte decFlags
  | .asl => .rmw aslByte aslFlags | .lsr => .rmw lsrByte lsrFlags
  | .rol => .rmw rolByte rolFlags | .ror => .rmw rorByte rorFlags
  | .uDcp => .rmw decByte dcpAfter | .uIsb => .rmw incByte isbAfter
  | .uSlo => .rmw aslByte sloAfter | .uRla => .rmw rolByte rlaAfter
  | .uSre => .rmw lsrByte sreAfter | .uRra => .rmw rorByte rraAfter
  | .inx => .implied inxReg | .iny => .implied inyReg
  | .dex => .implied dexReg | .dey => .implied deyReg
  | .tax => .implied taxReg | .tay => .implied tayReg | .txa => .implied txaReg
  | .tya => .implied tyaReg | .tsx => .implied tsxReg | .txs => .implied txsReg
  | .pha => .implied pushA | .php => .implied pushP
  | .pla => .implied pullA | .plp => .implied pullP
  | .clc => .implied clcFlag | .sec => .implied secFlag | .cli => .implied cliFlag
  | .sei => .implied seiFlag | .cld => .implied cldFlag | .sed => .implied sedFlag
  | .clv => .implied clvFlag | .nop => .implied noEffect
  | .bcc => .branch (fun f => !f.c) | .bcs => .branch Flags.c
  | .beq => .branch Flags.z | .bne => .branch (fun f => !f.z)
  | .bmi => .branch Flags.n | .bpl => .branch (fun f => !f.n)
  | .bvc => .branch (fun f => !f.v) | .bvs => .branch Flags.v
  | .jmp => .jump | .jsr => .jsr | .rts => .rts | .brk => .brk | .rti => .rti

/-- What an action does on an operand form; a form the action never has does nothing. -/
def runAction : Action → AddrForm → Nat → State → Result
  | .read act, .immediate v, n, s => readInstr (.imm v) act n s
  | .read act, .mem m, n, s => readInstr (.mem m) act n s
  | .write value, .mem m, n, s => writeInstr m value n s
  | .rmw new after, .mem m, n, s => rmwInstr m new after n s
  | .rmw new after, .accumulator, n, s => accInstr new after n s
  | .implied act, _, n, s => impliedInstr act n s
  | .branch cond, .relative d, n, s => branchInstr (cond s.p) d n s
  | .jump, .mem m, n, s => jumpInstr m n s
  | .jsr, .mem m, n, s => jsrInstr m n s
  | .rts, _, n, s => rtsInstr n s
  | .brk, _, n, s => brkInstr n s
  | .rti, _, n, s => rtiInstr n s
  | _, _, n, s => impliedInstr noEffect n s

/-- `exec` by mnemonic, operand form and base cost. -/
theorem exec_eq (i : Instr) (s : State) :
    exec i s = runAction (actionOf i.op) i.form i.baseCycles s := by
  cases i <;> rfl

/-- The memory forms through which data is accessed: every one but Indirect. -/
def dataForm : MemForm → Bool
  | .indirect _ => false
  | .zeroPage _ | .zeroPageX _ | .zeroPageY _ | .absolute _ | .absoluteX _ | .absoluteY _ => true
  | .absoluteXWrite _ | .absoluteYWrite _ | .indexedIndirect _ => true
  | .indirectIndexed _ | .indirectIndexedWrite _ => true

/-- Whether an instruction of that mnemonic can have that operand form. -/
def formFits (o : Op) (f : AddrForm) : Bool :=
  match actionOf o, f with
  | .read _, .immediate _ => true
  | .read _, .mem m => dataForm m
  | .read _, .implicit => o = .uNop
  | .write _, .mem m => dataForm m && !paysPageCross m.mode
  | .rmw _ _, .mem m => dataForm m && !paysPageCross m.mode
  | .rmw _ _, .accumulator => decide (o ∈ shiftOps)
  | .implied _, .implicit => true
  | .branch _, .relative _ => true
  | .jump, .mem (.absolute _) => true
  | .jump, .mem (.indirect _) => true
  | .jsr, .mem (.absolute _) => true
  | .rts, .implicit => true
  | .brk, .implicit => true
  | .rti, .implicit => true
  | _, _ => false

/-- Every instruction's form is one its mnemonic can have. -/
theorem form_fits (i : Instr) : formFits i.op i.form = true := by
  cases i <;> rfl

/-- The encoding of an instruction is as long as its mode says. -/
theorem encode_length (i : Instr) : (encode i).length = i.form.mode.len := by
  cases i <;> rfl

/-- A base cost is 2 to 8. -/
theorem baseCycles_range (i : Instr) : 2 ≤ i.baseCycles ∧ i.baseCycles ≤ 8 := by
  cases i <;> exact ⟨of_decide_eq_true rfl, of_decide_eq_true rfl⟩

end Sys2Proof.Machine
end

