-- ==== Sys2Proof/Laws/Flags.lean ====
section
/-! SUPPORT. The flag computations as numbers. -/

namespace Sys2Proof.Machine

theorem bit7_eq (b : Byte) : b[7] = decide (128 ≤ b.toNat) := by
  revert b
  decide +kernel

theorem bit6_eq (b : Byte) : b[6] = decide (64 ≤ b.toNat % 128) := by
  revert b
  decide +kernel

theorem bit0_eq (b : Byte) : b[0] = decide (b.toNat % 2 = 1) := by
  revert b
  decide +kernel

/-- `SetZN` read off the number. -/
theorem Flags.setZN_eq (r : Byte) (f : Flags) : Flags.setZN r f = znOf r f := by
  unfold Flags.setZN znOf
  rw [bit7_eq]
  congr 1
  rw [Bool.eq_iff_iff, beq_iff_eq, decide_eq_true_iff, ← BitVec.toNat_inj]
  rfl

end Sys2Proof.Machine
end

