-- ==== Sys2Proof/Laws/Memory.lean ====
section
/-! SUPPORT. The laws of memory: read after write, and that every memory operation keeps the
canonical form. -/

namespace Sys2Proof.Machine

theorem Memory.read_put_same (k : Nat) (v : Byte) (m : Memory)
    (h : Memory.read m k = Config.unlistedByte) : Memory.read (Memory.put k v m) k = v := by
  unfold Memory.put
  split
  · rename_i hv; rw [h, hv]
  · simp [Memory.read]

theorem Memory.read_put_other {j k : Nat} (v : Byte) (m : Memory) (h : j ≠ k) :
    Memory.read (Memory.put k v m) j = Memory.read m j := by
  unfold Memory.put
  split
  · rfl
  · simp [Memory.read, Ne.symm h]

/-- An address below every listed one is not listed. -/
theorem Memory.read_below (m : Memory) {lo k : Nat} (h : Memory.wfFrom lo m = true)
    (hk : k < lo) : Memory.read m k = Config.unlistedByte := by
  induction m generalizing lo with
  | nil => rfl
  | cons c rest ih =>
    obtain ⟨j, w⟩ := c
    simp only [Memory.wfFrom, Bool.and_eq_true, decide_eq_true_eq] at h
    obtain ⟨⟨⟨h1, -⟩, -⟩, h4⟩ := h
    rw [Memory.read, if_neg (by omega), ih h4 (by omega)]

theorem Memory.wfFrom_mono {m : Memory} {lo lo' : Nat} (h : Memory.wfFrom lo m = true)
    (hl : lo' ≤ lo) : Memory.wfFrom lo' m = true := by
  cases m with
  | nil => rfl
  | cons c rest =>
    obtain ⟨j, w⟩ := c
    simp only [Memory.wfFrom, Bool.and_eq_true, decide_eq_true_eq] at h ⊢
    obtain ⟨⟨⟨h1, h2⟩, h3⟩, h4⟩ := h
    exact ⟨⟨⟨by omega, h2⟩, h3⟩, h4⟩

theorem Memory.wfFrom_put {m : Memory} {lo k : Nat} (v : Byte) (hm : Memory.wfFrom (k + 1) m = true)
    (hl : lo ≤ k) (hk : k < 65536) : Memory.wfFrom lo (Memory.put k v m) = true := by
  unfold Memory.put
  split
  · exact Memory.wfFrom_mono hm (by omega)
  · rename_i hv
    simp [Memory.wfFrom, hl, hk, hv, hm]

/-- A write keeps the canonical form. -/
theorem Memory.wfFrom_write (m : Memory) {lo k : Nat} (v : Byte) (hm : Memory.wfFrom lo m = true)
    (hl : lo ≤ k) (hk : k < 65536) : Memory.wfFrom lo (Memory.write m k v) = true := by
  induction m generalizing lo with
  | nil => exact Memory.wfFrom_put v rfl hl hk
  | cons c rest ih =>
    obtain ⟨j, w⟩ := c
    have hm' := hm
    simp only [Memory.wfFrom, Bool.and_eq_true, decide_eq_true_eq] at hm
    obtain ⟨⟨⟨h1, h2⟩, h3⟩, h4⟩ := hm
    rw [Memory.write]
    split
    · refine Memory.wfFrom_put v ?_ hl hk
      simp [Memory.wfFrom, h2, h3, h4]; omega
    · split
      · rename_i hkj
        subst hkj
        exact Memory.wfFrom_put v h4 hl hk
      · simp [Memory.wfFrom, h1, h2, h3, ih h4 (by omega)]

/-- A write at a 16-bit address keeps the canonical form. -/
theorem Memory.wf_write {m : Memory} (h : Memory.wf m = true) (a : Addr) (v : Byte) :
    Memory.wf (Memory.write m a.toNat v) = true :=
  Memory.wfFrom_write m v h (Nat.zero_le _) a.isLt

/-- Loading bytes keeps the canonical form. -/
theorem Memory.wf_loadBytes (bs : List Byte) (a : Addr) {m : Memory} (h : Memory.wf m = true) :
    Memory.wf (loadBytes bs a m) = true := by
  induction bs generalizing a m with
  | nil => exact h
  | cons b bs ih => exact ih (a + 1) (Memory.wf_write h a b)

theorem Memory.read_writeFrom_same (m : Memory) {lo k : Nat} (v : Byte)
    (h : Memory.wfFrom lo m = true) : Memory.read (Memory.write m k v) k = v := by
  induction m generalizing lo with
  | nil => exact Memory.read_put_same k v [] rfl
  | cons c rest ih =>
    obtain ⟨j, w⟩ := c
    have h' := h
    simp only [Memory.wfFrom, Bool.and_eq_true, decide_eq_true_eq] at h
    obtain ⟨⟨⟨h1, h2⟩, h3⟩, h4⟩ := h
    rw [Memory.write]
    split
    · rename_i hkj
      refine Memory.read_put_same k v _ ?_
      rw [Memory.read, if_neg (by omega), Memory.read_below rest h4 (by omega)]
    · split
      · rename_i hkj
        exact Memory.read_put_same k v _ (Memory.read_below rest h4 (by omega))
      · rename_i hkj
        rw [Memory.read, if_neg (Ne.symm hkj), ih h4]

/-- Reading the address just written gives the byte written. -/
theorem Memory.read_write_same {m : Memory} (h : Memory.wf m = true) (k : Nat) (v : Byte) :
    Memory.read (Memory.write m k v) k = v :=
  Memory.read_writeFrom_same m v h

/-- Reading any other address gives what it gave before, in any memory. -/
theorem Memory.read_write_other (m : Memory) {j k : Nat} (v : Byte) (h : j ≠ k) :
    Memory.read (Memory.write m k v) j = Memory.read m j := by
  induction m with
  | nil => exact Memory.read_put_other v [] h
  | cons c rest ih =>
    obtain ⟨l, w⟩ := c
    rw [Memory.write]
    split
    · exact Memory.read_put_other v _ h
    · split
      · rename_i hkl
        rw [Memory.read_put_other v _ h, Memory.read, if_neg (by omega)]
      · simp only [Memory.read, ih]

/-- Different 16-bit addresses are different memory keys. -/
theorem toNat_ne_of_ne {a b : Addr} (h : a ≠ b) : a.toNat ≠ b.toNat :=
  fun e => h (BitVec.eq_of_toNat_eq e)

theorem memWrite_peek_same (a : Addr) (v : Byte) {s : State} (h : Memory.wf s.mem = true) :
    (memWrite a v s).peek a = v :=
  Memory.read_write_same h a.toNat v

theorem memWrite_peek_other {a b : Addr} (v : Byte) (s : State) (h : b ≠ a) :
    (memWrite a v s).peek b = s.peek b :=
  Memory.read_write_other s.mem v (toNat_ne_of_ne h)

end Sys2Proof.Machine
end

