-- ==== Sys2Proof/Laws/State.lean ====
section
/-! SUPPORT. One lemma per field of State for each state update of `Machine/Ops.lean`, so that no
proof unfolds a record update. -/

namespace Sys2Proof.Machine

@[simp] theorem memRead_a (k : Addr) (s : State) : (memRead k s).2.a = s.a := rfl
@[simp] theorem memRead_x (k : Addr) (s : State) : (memRead k s).2.x = s.x := rfl
@[simp] theorem memRead_y (k : Addr) (s : State) : (memRead k s).2.y = s.y := rfl
@[simp] theorem memRead_sp (k : Addr) (s : State) : (memRead k s).2.sp = s.sp := rfl
@[simp] theorem memRead_pc (k : Addr) (s : State) : (memRead k s).2.pc = s.pc := rfl
@[simp] theorem memRead_p (k : Addr) (s : State) : (memRead k s).2.p = s.p := rfl
@[simp] theorem memRead_cyc (k : Addr) (s : State) : (memRead k s).2.cyc = s.cyc := rfl
@[simp] theorem memRead_run (k : Addr) (s : State) : (memRead k s).2.run = s.run := rfl
@[simp] theorem memRead_nmiPending (k : Addr) (s : State) :
    (memRead k s).2.nmiPending = s.nmiPending := rfl
@[simp] theorem memRead_irqLine (k : Addr) (s : State) : (memRead k s).2.irqLine = s.irqLine := rfl
@[simp] theorem memRead_mem (k : Addr) (s : State) : (memRead k s).2.mem = s.mem := rfl
@[simp] theorem memRead_answers (k : Addr) (s : State) :
    (memRead k s).2.answers = s.answers.tail := rfl
@[simp] theorem memRead_schedule (k : Addr) (s : State) :
    (memRead k s).2.schedule = s.schedule := rfl
@[simp] theorem memRead_bus (k : Addr) (s : State) :
    (memRead k s).2.bus = s.bus ++ [.read k (s.busAnswer k)] := rfl

@[simp] theorem memWrite_a (k : Addr) (v : Byte) (s : State) : (memWrite k v s).a = s.a := rfl
@[simp] theorem memWrite_x (k : Addr) (v : Byte) (s : State) : (memWrite k v s).x = s.x := rfl
@[simp] theorem memWrite_y (k : Addr) (v : Byte) (s : State) : (memWrite k v s).y = s.y := rfl
@[simp] theorem memWrite_sp (k : Addr) (v : Byte) (s : State) : (memWrite k v s).sp = s.sp := rfl
@[simp] theorem memWrite_pc (k : Addr) (v : Byte) (s : State) : (memWrite k v s).pc = s.pc := rfl
@[simp] theorem memWrite_p (k : Addr) (v : Byte) (s : State) : (memWrite k v s).p = s.p := rfl
@[simp] theorem memWrite_cyc (k : Addr) (v : Byte) (s : State) : (memWrite k v s).cyc = s.cyc := rfl
@[simp] theorem memWrite_run (k : Addr) (v : Byte) (s : State) : (memWrite k v s).run = s.run := rfl
@[simp] theorem memWrite_nmiPending (k : Addr) (v : Byte) (s : State) :
    (memWrite k v s).nmiPending = s.nmiPending := rfl
@[simp] theorem memWrite_irqLine (k : Addr) (v : Byte) (s : State) :
    (memWrite k v s).irqLine = s.irqLine := rfl
@[simp] theorem memWrite_mem (k : Addr) (v : Byte) (s : State) :
    (memWrite k v s).mem = Memory.write s.mem k.toNat v := rfl
@[simp] theorem memWrite_answers (k : Addr) (v : Byte) (s : State) :
    (memWrite k v s).answers = s.answers := rfl
@[simp] theorem memWrite_schedule (k : Addr) (v : Byte) (s : State) :
    (memWrite k v s).schedule = s.schedule := rfl
@[simp] theorem memWrite_bus (k : Addr) (v : Byte) (s : State) :
    (memWrite k v s).bus = s.bus ++ [.write k v] := rfl

@[simp] theorem tick_a (n : Nat) (s : State) : (tick n s).a = s.a := rfl
@[simp] theorem tick_x (n : Nat) (s : State) : (tick n s).x = s.x := rfl
@[simp] theorem tick_y (n : Nat) (s : State) : (tick n s).y = s.y := rfl
@[simp] theorem tick_sp (n : Nat) (s : State) : (tick n s).sp = s.sp := rfl
@[simp] theorem tick_pc (n : Nat) (s : State) : (tick n s).pc = s.pc := rfl
@[simp] theorem tick_p (n : Nat) (s : State) : (tick n s).p = s.p := rfl
@[simp] theorem tick_cyc (n : Nat) (s : State) : (tick n s).cyc = s.cyc + n := rfl
@[simp] theorem tick_run (n : Nat) (s : State) : (tick n s).run = s.run := rfl
@[simp] theorem tick_nmiPending (n : Nat) (s : State) : (tick n s).nmiPending = s.nmiPending := rfl
@[simp] theorem tick_irqLine (n : Nat) (s : State) : (tick n s).irqLine = s.irqLine := rfl
@[simp] theorem tick_mem (n : Nat) (s : State) : (tick n s).mem = s.mem := rfl
@[simp] theorem tick_answers (n : Nat) (s : State) : (tick n s).answers = s.answers := rfl
@[simp] theorem tick_schedule (n : Nat) (s : State) : (tick n s).schedule = s.schedule := rfl
@[simp] theorem tick_bus (n : Nat) (s : State) : (tick n s).bus = s.bus ++ [.tick n] := rfl

@[simp] theorem push_a (v : Byte) (s : State) : (push v s).a = s.a := rfl
@[simp] theorem push_x (v : Byte) (s : State) : (push v s).x = s.x := rfl
@[simp] theorem push_y (v : Byte) (s : State) : (push v s).y = s.y := rfl
@[simp] theorem push_sp (v : Byte) (s : State) : (push v s).sp = s.sp - 1 := rfl
@[simp] theorem push_pc (v : Byte) (s : State) : (push v s).pc = s.pc := rfl
@[simp] theorem push_p (v : Byte) (s : State) : (push v s).p = s.p := rfl
@[simp] theorem push_cyc (v : Byte) (s : State) : (push v s).cyc = s.cyc := rfl
@[simp] theorem push_run (v : Byte) (s : State) : (push v s).run = s.run := rfl
@[simp] theorem push_nmiPending (v : Byte) (s : State) : (push v s).nmiPending = s.nmiPending := rfl
@[simp] theorem push_irqLine (v : Byte) (s : State) : (push v s).irqLine = s.irqLine := rfl
@[simp] theorem push_mem (v : Byte) (s : State) :
    (push v s).mem = Memory.write s.mem (stackAddr s.sp).toNat v := rfl
@[simp] theorem push_answers (v : Byte) (s : State) : (push v s).answers = s.answers := rfl
@[simp] theorem push_schedule (v : Byte) (s : State) : (push v s).schedule = s.schedule := rfl
@[simp] theorem push_bus (v : Byte) (s : State) :
    (push v s).bus = s.bus ++ [.write (stackAddr s.sp) v] := rfl

@[simp] theorem pull_a (s : State) : (pull s).2.a = s.a := rfl
@[simp] theorem pull_x (s : State) : (pull s).2.x = s.x := rfl
@[simp] theorem pull_y (s : State) : (pull s).2.y = s.y := rfl
@[simp] theorem pull_sp (s : State) : (pull s).2.sp = s.sp + 1 := rfl
@[simp] theorem pull_pc (s : State) : (pull s).2.pc = s.pc := rfl
@[simp] theorem pull_p (s : State) : (pull s).2.p = s.p := rfl
@[simp] theorem pull_cyc (s : State) : (pull s).2.cyc = s.cyc := rfl
@[simp] theorem pull_run (s : State) : (pull s).2.run = s.run := rfl
@[simp] theorem pull_nmiPending (s : State) : (pull s).2.nmiPending = s.nmiPending := rfl
@[simp] theorem pull_irqLine (s : State) : (pull s).2.irqLine = s.irqLine := rfl
@[simp] theorem pull_mem (s : State) : (pull s).2.mem = s.mem := rfl
@[simp] theorem pull_answers (s : State) : (pull s).2.answers = s.answers.tail := rfl
@[simp] theorem pull_schedule (s : State) : (pull s).2.schedule = s.schedule := rfl
@[simp] theorem pull_bus (s : State) :
    (pull s).2.bus = s.bus ++ [.read (stackAddr (s.sp + 1)) (s.busAnswer (stackAddr (s.sp + 1)))] := rfl

@[simp] theorem setZN_a (r : Byte) (s : State) : (setZN r s).a = s.a := rfl
@[simp] theorem setZN_x (r : Byte) (s : State) : (setZN r s).x = s.x := rfl
@[simp] theorem setZN_y (r : Byte) (s : State) : (setZN r s).y = s.y := rfl
@[simp] theorem setZN_sp (r : Byte) (s : State) : (setZN r s).sp = s.sp := rfl
@[simp] theorem setZN_pc (r : Byte) (s : State) : (setZN r s).pc = s.pc := rfl
@[simp] theorem setZN_p (r : Byte) (s : State) : (setZN r s).p = s.p.setZN r := rfl
@[simp] theorem setZN_cyc (r : Byte) (s : State) : (setZN r s).cyc = s.cyc := rfl
@[simp] theorem setZN_run (r : Byte) (s : State) : (setZN r s).run = s.run := rfl
@[simp] theorem setZN_nmiPending (r : Byte) (s : State) :
    (setZN r s).nmiPending = s.nmiPending := rfl
@[simp] theorem setZN_irqLine (r : Byte) (s : State) : (setZN r s).irqLine = s.irqLine := rfl
@[simp] theorem setZN_mem (r : Byte) (s : State) : (setZN r s).mem = s.mem := rfl
@[simp] theorem setZN_answers (r : Byte) (s : State) : (setZN r s).answers = s.answers := rfl
@[simp] theorem setZN_schedule (r : Byte) (s : State) : (setZN r s).schedule = s.schedule := rfl
@[simp] theorem setZN_bus (r : Byte) (s : State) : (setZN r s).bus = s.bus := rfl

@[simp] theorem setCarry_a (b : Bool) (s : State) : (setCarry b s).a = s.a := rfl
@[simp] theorem setCarry_x (b : Bool) (s : State) : (setCarry b s).x = s.x := rfl
@[simp] theorem setCarry_y (b : Bool) (s : State) : (setCarry b s).y = s.y := rfl
@[simp] theorem setCarry_sp (b : Bool) (s : State) : (setCarry b s).sp = s.sp := rfl
@[simp] theorem setCarry_pc (b : Bool) (s : State) : (setCarry b s).pc = s.pc := rfl
@[simp] theorem setCarry_p (b : Bool) (s : State) : (setCarry b s).p = { s.p with c := b } := rfl
@[simp] theorem setCarry_cyc (b : Bool) (s : State) : (setCarry b s).cyc = s.cyc := rfl
@[simp] theorem setCarry_run (b : Bool) (s : State) : (setCarry b s).run = s.run := rfl
@[simp] theorem setCarry_nmiPending (b : Bool) (s : State) :
    (setCarry b s).nmiPending = s.nmiPending := rfl
@[simp] theorem setCarry_irqLine (b : Bool) (s : State) : (setCarry b s).irqLine = s.irqLine := rfl
@[simp] theorem setCarry_mem (b : Bool) (s : State) : (setCarry b s).mem = s.mem := rfl
@[simp] theorem setCarry_answers (b : Bool) (s : State) : (setCarry b s).answers = s.answers := rfl
@[simp] theorem setCarry_schedule (b : Bool) (s : State) :
    (setCarry b s).schedule = s.schedule := rfl
@[simp] theorem setCarry_bus (b : Bool) (s : State) : (setCarry b s).bus = s.bus := rfl

@[simp] theorem loadA_a (v : Byte) (s : State) : (loadA v s).a = v := rfl
@[simp] theorem loadA_x (v : Byte) (s : State) : (loadA v s).x = s.x := rfl
@[simp] theorem loadA_y (v : Byte) (s : State) : (loadA v s).y = s.y := rfl
@[simp] theorem loadA_sp (v : Byte) (s : State) : (loadA v s).sp = s.sp := rfl
@[simp] theorem loadA_pc (v : Byte) (s : State) : (loadA v s).pc = s.pc := rfl
@[simp] theorem loadA_p (v : Byte) (s : State) : (loadA v s).p = s.p.setZN v := rfl
@[simp] theorem loadA_cyc (v : Byte) (s : State) : (loadA v s).cyc = s.cyc := rfl
@[simp] theorem loadA_run (v : Byte) (s : State) : (loadA v s).run = s.run := rfl
@[simp] theorem loadA_nmiPending (v : Byte) (s : State) :
    (loadA v s).nmiPending = s.nmiPending := rfl
@[simp] theorem loadA_irqLine (v : Byte) (s : State) : (loadA v s).irqLine = s.irqLine := rfl
@[simp] theorem loadA_mem (v : Byte) (s : State) : (loadA v s).mem = s.mem := rfl
@[simp] theorem loadA_answers (v : Byte) (s : State) : (loadA v s).answers = s.answers := rfl
@[simp] theorem loadA_schedule (v : Byte) (s : State) : (loadA v s).schedule = s.schedule := rfl
@[simp] theorem loadA_bus (v : Byte) (s : State) : (loadA v s).bus = s.bus := rfl

@[simp] theorem loadX_a (v : Byte) (s : State) : (loadX v s).a = s.a := rfl
@[simp] theorem loadX_x (v : Byte) (s : State) : (loadX v s).x = v := rfl
@[simp] theorem loadX_y (v : Byte) (s : State) : (loadX v s).y = s.y := rfl
@[simp] theorem loadX_sp (v : Byte) (s : State) : (loadX v s).sp = s.sp := rfl
@[simp] theorem loadX_pc (v : Byte) (s : State) : (loadX v s).pc = s.pc := rfl
@[simp] theorem loadX_p (v : Byte) (s : State) : (loadX v s).p = s.p.setZN v := rfl
@[simp] theorem loadX_cyc (v : Byte) (s : State) : (loadX v s).cyc = s.cyc := rfl
@[simp] theorem loadX_run (v : Byte) (s : State) : (loadX v s).run = s.run := rfl
@[simp] theorem loadX_nmiPending (v : Byte) (s : State) :
    (loadX v s).nmiPending = s.nmiPending := rfl
@[simp] theorem loadX_irqLine (v : Byte) (s : State) : (loadX v s).irqLine = s.irqLine := rfl
@[simp] theorem loadX_mem (v : Byte) (s : State) : (loadX v s).mem = s.mem := rfl
@[simp] theorem loadX_answers (v : Byte) (s : State) : (loadX v s).answers = s.answers := rfl
@[simp] theorem loadX_schedule (v : Byte) (s : State) : (loadX v s).schedule = s.schedule := rfl
@[simp] theorem loadX_bus (v : Byte) (s : State) : (loadX v s).bus = s.bus := rfl

@[simp] theorem loadY_a (v : Byte) (s : State) : (loadY v s).a = s.a := rfl
@[simp] theorem loadY_x (v : Byte) (s : State) : (loadY v s).x = s.x := rfl
@[simp] theorem loadY_y (v : Byte) (s : State) : (loadY v s).y = v := rfl
@[simp] theorem loadY_sp (v : Byte) (s : State) : (loadY v s).sp = s.sp := rfl
@[simp] theorem loadY_pc (v : Byte) (s : State) : (loadY v s).pc = s.pc := rfl
@[simp] theorem loadY_p (v : Byte) (s : State) : (loadY v s).p = s.p.setZN v := rfl
@[simp] theorem loadY_cyc (v : Byte) (s : State) : (loadY v s).cyc = s.cyc := rfl
@[simp] theorem loadY_run (v : Byte) (s : State) : (loadY v s).run = s.run := rfl
@[simp] theorem loadY_nmiPending (v : Byte) (s : State) :
    (loadY v s).nmiPending = s.nmiPending := rfl
@[simp] theorem loadY_irqLine (v : Byte) (s : State) : (loadY v s).irqLine = s.irqLine := rfl
@[simp] theorem loadY_mem (v : Byte) (s : State) : (loadY v s).mem = s.mem := rfl
@[simp] theorem loadY_answers (v : Byte) (s : State) : (loadY v s).answers = s.answers := rfl
@[simp] theorem loadY_schedule (v : Byte) (s : State) : (loadY v s).schedule = s.schedule := rfl
@[simp] theorem loadY_bus (v : Byte) (s : State) : (loadY v s).bus = s.bus := rfl

@[simp] theorem finish_a (len cycles : Nat) (s : State) : (finish len cycles s).a = s.a := rfl
@[simp] theorem finish_x (len cycles : Nat) (s : State) : (finish len cycles s).x = s.x := rfl
@[simp] theorem finish_y (len cycles : Nat) (s : State) : (finish len cycles s).y = s.y := rfl
@[simp] theorem finish_sp (len cycles : Nat) (s : State) : (finish len cycles s).sp = s.sp := rfl
@[simp] theorem finish_pc (len cycles : Nat) (s : State) :
    (finish len cycles s).pc = s.pc + BitVec.ofNat 16 len := rfl
@[simp] theorem finish_p (len cycles : Nat) (s : State) : (finish len cycles s).p = s.p := rfl
@[simp] theorem finish_cyc (len cycles : Nat) (s : State) :
    (finish len cycles s).cyc = s.cyc + cycles := rfl
@[simp] theorem finish_run (len cycles : Nat) (s : State) : (finish len cycles s).run = s.run := rfl
@[simp] theorem finish_nmiPending (len cycles : Nat) (s : State) :
    (finish len cycles s).nmiPending = s.nmiPending := rfl
@[simp] theorem finish_irqLine (len cycles : Nat) (s : State) :
    (finish len cycles s).irqLine = s.irqLine := rfl
@[simp] theorem finish_mem (len cycles : Nat) (s : State) : (finish len cycles s).mem = s.mem := rfl
@[simp] theorem finish_answers (len cycles : Nat) (s : State) :
    (finish len cycles s).answers = s.answers := rfl
@[simp] theorem finish_schedule (len cycles : Nat) (s : State) :
    (finish len cycles s).schedule = s.schedule := rfl
@[simp] theorem finish_bus (len cycles : Nat) (s : State) :
    (finish len cycles s).bus = s.bus ++ [.tick cycles] := rfl

@[simp] theorem finishAt_a (k : Addr) (cycles : Nat) (s : State) :
    (finishAt k cycles s).a = s.a := rfl
@[simp] theorem finishAt_x (k : Addr) (cycles : Nat) (s : State) :
    (finishAt k cycles s).x = s.x := rfl
@[simp] theorem finishAt_y (k : Addr) (cycles : Nat) (s : State) :
    (finishAt k cycles s).y = s.y := rfl
@[simp] theorem finishAt_sp (k : Addr) (cycles : Nat) (s : State) :
    (finishAt k cycles s).sp = s.sp := rfl
@[simp] theorem finishAt_pc (k : Addr) (cycles : Nat) (s : State) :
    (finishAt k cycles s).pc = k := rfl
@[simp] theorem finishAt_p (k : Addr) (cycles : Nat) (s : State) :
    (finishAt k cycles s).p = s.p := rfl
@[simp] theorem finishAt_cyc (k : Addr) (cycles : Nat) (s : State) :
    (finishAt k cycles s).cyc = s.cyc + cycles := rfl
@[simp] theorem finishAt_run (k : Addr) (cycles : Nat) (s : State) :
    (finishAt k cycles s).run = s.run := rfl
@[simp] theorem finishAt_nmiPending (k : Addr) (cycles : Nat) (s : State) :
    (finishAt k cycles s).nmiPending = s.nmiPending := rfl
@[simp] theorem finishAt_irqLine (k : Addr) (cycles : Nat) (s : State) :
    (finishAt k cycles s).irqLine = s.irqLine := rfl
@[simp] theorem finishAt_mem (k : Addr) (cycles : Nat) (s : State) :
    (finishAt k cycles s).mem = s.mem := rfl
@[simp] theorem finishAt_answers (k : Addr) (cycles : Nat) (s : State) :
    (finishAt k cycles s).answers = s.answers := rfl
@[simp] theorem finishAt_schedule (k : Addr) (cycles : Nat) (s : State) :
    (finishAt k cycles s).schedule = s.schedule := rfl
@[simp] theorem finishAt_bus (k : Addr) (cycles : Nat) (s : State) :
    (finishAt k cycles s).bus = s.bus ++ [.tick cycles] := rfl

end Sys2Proof.Machine
end

