-- ==== Sys2Proof/Laws/Ops.lean ====
section
/-! SUPPORT. One lemma per shared operation that says everything it does: Bus reads, pointer
reads, pushes and pulls, the resolver, taking an exception and returning from one. -/

namespace Sys2Proof.Machine

/-! ### Bus reads -/

theorem busAnswer_eq (a : Addr) (s : State) : s.busAnswer a = s.answerAt 0 a := by
  unfold State.busAnswer State.answerAt
  rcases s.answers with _ | ⟨_ | v, l⟩ <;> rfl

/-- A Bus read: the byte of the first answer, which is used up, and one event. -/
theorem memRead_spec (a : Addr) (s : State) : memRead a s = (s.answerAt 0 a, { s with
    answers := s.answers.drop 1
    bus := s.bus ++ [.read a (s.answerAt 0 a)] }) := by
  rw [memRead, busAnswer_eq, List.drop_one]

@[simp] theorem memRead_value (a : Addr) (s : State) : (memRead a s).1 = s.answerAt 0 a := by
  rw [memRead_spec]

/-- What later reads answer depends on a state only through its answers and its memory. -/
theorem answerAt_congr {s t : State} {j k : Nat} {a : Addr} (h : t.answers[j]? = s.answers[k]?)
    (hp : t.peek a = s.peek a) : t.answerAt j a = s.answerAt k a := by
  unfold State.answerAt
  rw [h, hp]

@[simp] theorem answerAt_memRead (a b : Addr) (k : Nat) (s : State) :
    (memRead a s).2.answerAt k b = s.answerAt (k + 1) b :=
  answerAt_congr (by simp [memRead]) rfl

@[simp] theorem answerAt_tick (b : Addr) (k n : Nat) (s : State) :
    (tick n s).answerAt k b = s.answerAt k b := rfl

/-- With no answer of the environment left, memory answers. -/
theorem answerAt_of_no_answers {s : State} (h : s.answers = []) (k : Nat) (a : Addr) :
    s.answerAt k a = s.peek a := by
  unfold State.answerAt
  simp [h]

/-- Two Bus reads, low byte first. -/
theorem readPair_spec (lo hi : Addr) (s : State) : readPair lo hi s = (s.pointerAt 0 lo hi, { s with
    answers := s.answers.drop 2
    bus := s.bus ++ [.read lo (s.answerAt 0 lo), .read hi (s.answerAt 1 hi)] }) := by
  simp [readPair, State.pointerAt, memRead_spec, State.answerAt, State.peek]

/-! ### The resolver -/

/-- The Bus reads the resolver makes: two for the forms with a pointer, low byte first. -/
def resolveReads (m : MemForm) (s : State) : List BusEvent :=
  match m with
  | .indirect p => pair p (wrapInPage p)
  | .indexedIndirect z => pair (zeroPageAddr (z + s.x)) (zeroPageAddr (z + s.x + 1))
  | .indirectIndexed z => pair (zeroPageAddr z) (zeroPageAddr (z + 1))
  | .indirectIndexedWrite z => pair (zeroPageAddr z) (zeroPageAddr (z + 1))
  | .zeroPage _ | .zeroPageX _ | .zeroPageY _ | .absolute _ | .absoluteX _ | .absoluteY _ => []
  | .absoluteXWrite _ | .absoluteYWrite _ => []
where
  pair (lo hi : Addr) : List BusEvent := [.read lo (s.answerAt 0 lo), .read hi (s.answerAt 1 hi)]

/-- The resolver uses up one answer a pointer read and adds those reads to the history. -/
theorem resolve_state (m : MemForm) (s : State) : (resolve m s).2 = { s with
    answers := s.answers.drop (resolveReads m s).length
    bus := s.bus ++ resolveReads m s } := by
  cases m <;>
    simp [resolve, resolveReads, resolveReads.pair, read16Wrap, read16ZP, readPair_spec]

/-- The tick of the page-cross penalty, where it is charged. -/
def penaltyTicks (m : MemForm) (s : State) : List BusEvent :=
  if (resolve m s).1.extra && paysPageCross m.mode then [.tick 1] else []

/-- The state after a memory form has been resolved and its penalty charged. -/
theorem effectiveAddress_state (m : MemForm) (s : State) : (effectiveAddress m s).2 = { s with
    answers := s.answers.drop (resolveReads m s).length
    bus := s.bus ++ (resolveReads m s ++ penaltyTicks m s)
    cyc := s.cyc + busTicks (penaltyTicks m s) } := by
  unfold effectiveAddress penaltyTicks
  simp only
  rw [resolve_state]
  split <;> simp [tick, busTicks]

theorem effectiveAddress_frame (m : MemForm) (s : State) : ∃ answers bus cyc,
    (effectiveAddress m s).2 = { s with answers := answers, bus := bus, cyc := cyc } :=
  ⟨_, _, _, effectiveAddress_state m s⟩

@[simp] theorem answerAt_effectiveAddress (m : MemForm) (s : State) (k : Nat) (a : Addr) :
    (effectiveAddress m s).2.answerAt k a = s.answerAt ((resolveReads m s).length + k) a := by
  rw [effectiveAddress_state]
  exact answerAt_congr (by simp) rfl

/-- The operand of a memory form: the next answer of the Bus at the effective address. -/
theorem readOperand_mem (m : MemForm) (s : State) :
    (readOperand (.mem m) s).1 =
      s.answerAt (resolveReads m s).length (effectiveAddress m s).1 := by
  rw [readOperand, memRead_value, answerAt_effectiveAddress, Nat.add_zero]

/-- The state after the operand of a memory form has been read. -/
theorem readOperand_mem_state (m : MemForm) (s : State) : (readOperand (.mem m) s).2 = { s with
    answers := s.answers.drop ((resolveReads m s).length + 1)
    bus := s.bus ++ (resolveReads m s ++ penaltyTicks m s ++
      [.read (effectiveAddress m s).1 (readOperand (.mem m) s).1])
    cyc := s.cyc + busTicks (penaltyTicks m s) } := by
  rw [readOperand_mem, readOperand, memRead_spec, answerAt_effectiveAddress,
    effectiveAddress_state]
  simp

/-! ### The operand classes -/

theorem readInstr_imm (v : Byte) (act : Byte → State → State) (n : Nat) (s : State) :
    readInstr (.imm v) act n s = .next (finish 2 n (act v s)) := rfl

theorem readInstr_mem (m : MemForm) (act : Byte → State → State) (n : Nat) (s : State) :
    readInstr (.mem m) act n s =
      .next (finish m.mode.len n (act (readOperand (.mem m) s).1 { s with
        answers := s.answers.drop ((resolveReads m s).length + 1)
        bus := s.bus ++ (resolveReads m s ++ penaltyTicks m s ++
          [.read (effectiveAddress m s).1 (readOperand (.mem m) s).1])
        cyc := s.cyc + busTicks (penaltyTicks m s) })) := by
  rw [← readOperand_mem_state]
  rfl

theorem writeInstr_mem (m : MemForm) (value : State → Byte) (n : Nat) (s : State) :
    writeInstr m value n s =
      .next (finish m.mode.len n (memWrite (effectiveAddress m s).1
        (value (effectiveAddress m s).2) (effectiveAddress m s).2)) := rfl

theorem rmwInstr_mem (m : MemForm) (new : State → Byte → Byte)
    (after : Byte → Byte → State → State) (n : Nat) (s : State) :
    rmwInstr m new after n s =
      let o := readOperand (.mem m) s
      let r := new o.2 o.1
      .next (finish m.mode.len n (after o.1 r (memWrite (effectiveAddress m s).1 r o.2))) := rfl

theorem effectiveAddress_ea (m : MemForm) (s : State) :
    (effectiveAddress m s).1 = (resolve m s).1.ea := rfl

@[simp] theorem effectiveAddress_a (m : MemForm) (s : State) :
    (effectiveAddress m s).2.a = s.a := by
  obtain ⟨_, _, _, h⟩ := effectiveAddress_frame m s; rw [h]
@[simp] theorem effectiveAddress_x (m : MemForm) (s : State) :
    (effectiveAddress m s).2.x = s.x := by
  obtain ⟨_, _, _, h⟩ := effectiveAddress_frame m s; rw [h]
@[simp] theorem effectiveAddress_y (m : MemForm) (s : State) :
    (effectiveAddress m s).2.y = s.y := by
  obtain ⟨_, _, _, h⟩ := effectiveAddress_frame m s; rw [h]
@[simp] theorem effectiveAddress_sp (m : MemForm) (s : State) :
    (effectiveAddress m s).2.sp = s.sp := by
  obtain ⟨_, _, _, h⟩ := effectiveAddress_frame m s; rw [h]
@[simp] theorem effectiveAddress_pc (m : MemForm) (s : State) :
    (effectiveAddress m s).2.pc = s.pc := by
  obtain ⟨_, _, _, h⟩ := effectiveAddress_frame m s; rw [h]
@[simp] theorem effectiveAddress_p (m : MemForm) (s : State) :
    (effectiveAddress m s).2.p = s.p := by
  obtain ⟨_, _, _, h⟩ := effectiveAddress_frame m s; rw [h]
@[simp] theorem effectiveAddress_run (m : MemForm) (s : State) :
    (effectiveAddress m s).2.run = s.run := by
  obtain ⟨_, _, _, h⟩ := effectiveAddress_frame m s; rw [h]
@[simp] theorem effectiveAddress_nmiPending (m : MemForm) (s : State) :
    (effectiveAddress m s).2.nmiPending = s.nmiPending := by
  obtain ⟨_, _, _, h⟩ := effectiveAddress_frame m s; rw [h]
@[simp] theorem effectiveAddress_irqLine (m : MemForm) (s : State) :
    (effectiveAddress m s).2.irqLine = s.irqLine := by
  obtain ⟨_, _, _, h⟩ := effectiveAddress_frame m s; rw [h]
@[simp] theorem effectiveAddress_mem (m : MemForm) (s : State) :
    (effectiveAddress m s).2.mem = s.mem := by
  obtain ⟨_, _, _, h⟩ := effectiveAddress_frame m s; rw [h]
@[simp] theorem effectiveAddress_schedule (m : MemForm) (s : State) :
    (effectiveAddress m s).2.schedule = s.schedule := by
  obtain ⟨_, _, _, h⟩ := effectiveAddress_frame m s; rw [h]

/-! ### The stack -/

/-- A push: one write at the old stack pointer. -/
theorem push_spec (v : Byte) (s : State) : push v s = { s with
    sp := s.sp - 1
    mem := Memory.write s.mem (stackAddr s.sp).toNat v
    bus := s.bus ++ [.write (stackAddr s.sp) v] } := rfl

/-- A pull: one read at the new stack pointer. -/
theorem pull_spec (s : State) : pull s = (s.answerAt 0 (stackAddr (s.sp + 1)), { s with
    sp := s.sp + 1
    answers := s.answers.drop 1
    bus := s.bus ++ [.read (stackAddr (s.sp + 1)) (s.answerAt 0 (stackAddr (s.sp + 1)))] }) := by
  rw [pull, memRead_spec]
  rfl

theorem pushAddr_spec (a : Addr) (s : State) : pushAddr a s = { s with
    sp := s.sp - 1 - 1
    mem := Memory.write (Memory.write s.mem (stackAddr s.sp).toNat (highByte a))
      (stackAddr (s.sp - 1)).toNat (lowByte a)
    bus := s.bus ++ [.write (stackAddr s.sp) (highByte a),
      .write (stackAddr (s.sp - 1)) (lowByte a)] } := by
  simp [pushAddr, push_spec]

theorem pullAddr_spec (s : State) : pullAddr s =
    (s.pointerAt 0 (stackAddr (s.sp + 1)) (stackAddr (s.sp + 1 + 1)), { s with
      sp := s.sp + 1 + 1
      answers := s.answers.drop 2
      bus := s.bus ++ [
        .read (stackAddr (s.sp + 1)) (s.answerAt 0 (stackAddr (s.sp + 1))),
        .read (stackAddr (s.sp + 1 + 1)) (s.answerAt 1 (stackAddr (s.sp + 1 + 1)))] }) := by
  simp [pullAddr, pull_spec, State.pointerAt, State.answerAt, State.peek]

/-- A stack address as a number: it lies in page 1. -/
theorem stackAddr_toNat (b : Byte) : (stackAddr b).toNat = 256 + b.toNat := by
  have h := b.isLt
  unfold stackAddr addrOfBytes Config.stackPage
  simp only [BitVec.toNat_append]
  rw [← Nat.shiftLeft_add_eq_or_of_lt h]
  rfl

/-- Different stack pointers give different stack addresses. -/
theorem stackAddr_inj {a b : Byte} : stackAddr a = stackAddr b ↔ a = b := by
  constructor
  · intro h
    have := congrArg BitVec.toNat h
    rw [stackAddr_toNat, stackAddr_toNat] at this
    exact BitVec.eq_of_toNat_eq (by omega)
  · rintro rfl; rfl

/-- No vector lies on the stack. -/
theorem ne_stackAddr {a : Addr} (h : 512 ≤ a.toNat) (b : Byte) : a ≠ stackAddr b := by
  intro e
  have := b.isLt
  have := stackAddr_toNat b
  rw [← e] at this
  omega

/-! ### Exceptions -/

/-- The memory three pushes of an exception leave. -/
def exceptionMem (s : State) (ret : Addr) (status : Byte) : Memory :=
  Memory.write (Memory.write (Memory.write s.mem (stackAddr s.sp).toNat (highByte ret))
    (stackAddr (s.sp - 1)).toNat (lowByte ret)) (stackAddr (s.sp - 2)).toNat status

theorem exceptionMem_read {s : State} {a : Addr} (ret : Addr) (status : Byte)
    (h : a ∉ [stackAddr s.sp, stackAddr (s.sp - 1), stackAddr (s.sp - 2)]) :
    Memory.read (exceptionMem s ret status) a.toNat = s.peek a := by
  simp only [List.mem_cons, List.not_mem_nil, or_false, not_or] at h
  obtain ⟨h0, h1, h2⟩ := h
  rw [exceptionMem, Memory.read_write_other _ _ (toNat_ne_of_ne h2),
    Memory.read_write_other _ _ (toNat_ne_of_ne h1),
    Memory.read_write_other _ _ (toNat_ne_of_ne h0), State.peek]

/-- Taking an exception through a vector outside page 1: three writes, two reads, `P.I`, `SP` and
`PC`; nothing else. -/
theorem takeException_spec (vector ret : Addr) (brk : Bool) (s : State)
    (hv : 512 ≤ vector.toNat ∧ vector.toNat < 65535) :
    takeException vector ret brk s = { s with
      sp := s.sp - 3
      pc := s.pointerAt 0 vector (vector + 1)
      p := { s.p with i := true }
      mem := exceptionMem s ret (s.p.pack brk)
      answers := s.answers.drop 2
      bus := s.bus ++ [.write (stackAddr s.sp) (highByte ret),
        .write (stackAddr (s.sp - 1)) (lowByte ret),
        .write (stackAddr (s.sp - 2)) (s.p.pack brk),
        .read vector (s.answerAt 0 vector),
        .read (vector + 1) (s.answerAt 1 (vector + 1))] } := by
  have e2 : s.sp - 1 - 1 = s.sp - 2 := by bv_omega
  have e3 : s.sp - 2 - 1 = s.sp - 3 := by bv_omega
  have hv1 : 512 ≤ (vector + 1).toNat := by
    have : (vector + 1).toNat = vector.toNat + 1 := by bv_omega
    omega
  have key : ∀ (a : Addr), 512 ≤ a.toNat → ∀ (t : State) (k : Nat), t.answers = s.answers →
      t.mem = exceptionMem s ret (s.p.pack brk) → t.answerAt k a = s.answerAt k a := by
    intro a ha t k h1 h2
    refine answerAt_congr (by rw [h1]) ?_
    rw [State.peek, h2]
    exact exceptionMem_read ret _ (by
      simp only [List.mem_cons, List.not_mem_nil, or_false, not_or]
      exact ⟨ne_stackAddr ha _, ne_stackAddr ha _, ne_stackAddr ha _⟩)
  simp only [takeException, push_spec, pushAddr_spec, read16, readPair_spec, e2, e3]
  rw [State.pointerAt, key vector hv.1, key (vector + 1) hv1]
  · simp [State.pointerAt, exceptionMem]
  all_goals rfl

theorem returnFromException_spec (s : State) : returnFromException s = { s with
    sp := s.sp + 3
    pc := s.pointerAt 1 (stackAddr (s.sp + 2)) (stackAddr (s.sp + 3))
    p := Flags.unpack (s.answerAt 0 (stackAddr (s.sp + 1)))
    answers := s.answers.drop 3
    bus := s.bus ++ [
      .read (stackAddr (s.sp + 1)) (s.answerAt 0 (stackAddr (s.sp + 1))),
      .read (stackAddr (s.sp + 2)) (s.answerAt 1 (stackAddr (s.sp + 2))),
      .read (stackAddr (s.sp + 3)) (s.answerAt 2 (stackAddr (s.sp + 3)))] } := by
  have e2 : s.sp + 1#8 + 1#8 = s.sp + 2#8 := by bv_omega
  have e3 : s.sp + 2#8 + 1#8 = s.sp + 3#8 := by bv_omega
  simp [returnFromException, pull_spec, pullAddr_spec, State.pointerAt, State.answerAt,
    State.peek, e2, e3]

/-! ### The history of the Bus -/

@[simp] theorem busTicks_append (l m : List BusEvent) :
    busTicks (l ++ m) = busTicks l + busTicks m := by
  induction l with
  | nil => simp [busTicks]
  | cons e l ih => cases e <;> simp [busTicks, ih, Nat.add_assoc]

/-! ### The environment's moves -/

/-- A move of the environment changes the NMI request, the IRQ level or memory, nothing else. -/
theorem applyMove_frame (s : State) (m : EnvMove) : ∃ nmi irq mem,
    applyMove s m = { s with nmiPending := nmi, irqLine := irq, mem := mem } := by
  cases m <;> exact ⟨_, _, _, rfl⟩

/-- So do the moves at a boundary, beside taking their entry off the schedule. -/
theorem openBoundary_frame (s : State) : ∃ nmi irq mem, openBoundary s = { s with
    nmiPending := nmi, irqLine := irq, mem := mem, schedule := s.schedule.tail } := by
  have key : ∀ (ms : List EnvMove) (t : State), ∃ nmi irq mem,
      ms.foldl applyMove t = { t with nmiPending := nmi, irqLine := irq, mem := mem } := by
    intro ms
    induction ms with
    | nil => exact fun t => ⟨_, _, _, rfl⟩
    | cons m ms ih =>
      intro t
      obtain ⟨_, _, _, h⟩ := applyMove_frame t m
      obtain ⟨n, i, e, h'⟩ := ih (applyMove t m)
      exact ⟨n, i, e, by rw [List.foldl_cons, h', h]⟩
  obtain ⟨n, i, e, h⟩ := key (s.schedule.headD []) { s with schedule := s.schedule.tail }
  exact ⟨n, i, e, h⟩

@[simp] theorem openBoundary_a (s : State) : (openBoundary s).a = s.a := by
  obtain ⟨_, _, _, h⟩ := openBoundary_frame s; rw [h]
@[simp] theorem openBoundary_x (s : State) : (openBoundary s).x = s.x := by
  obtain ⟨_, _, _, h⟩ := openBoundary_frame s; rw [h]
@[simp] theorem openBoundary_y (s : State) : (openBoundary s).y = s.y := by
  obtain ⟨_, _, _, h⟩ := openBoundary_frame s; rw [h]
@[simp] theorem openBoundary_sp (s : State) : (openBoundary s).sp = s.sp := by
  obtain ⟨_, _, _, h⟩ := openBoundary_frame s; rw [h]
@[simp] theorem openBoundary_pc (s : State) : (openBoundary s).pc = s.pc := by
  obtain ⟨_, _, _, h⟩ := openBoundary_frame s; rw [h]
@[simp] theorem openBoundary_p (s : State) : (openBoundary s).p = s.p := by
  obtain ⟨_, _, _, h⟩ := openBoundary_frame s; rw [h]
@[simp] theorem openBoundary_cyc (s : State) : (openBoundary s).cyc = s.cyc := by
  obtain ⟨_, _, _, h⟩ := openBoundary_frame s; rw [h]
@[simp] theorem openBoundary_run (s : State) : (openBoundary s).run = s.run := by
  obtain ⟨_, _, _, h⟩ := openBoundary_frame s; rw [h]
@[simp] theorem openBoundary_answers (s : State) : (openBoundary s).answers = s.answers := by
  obtain ⟨_, _, _, h⟩ := openBoundary_frame s; rw [h]
@[simp] theorem openBoundary_bus (s : State) : (openBoundary s).bus = s.bus := by
  obtain ⟨_, _, _, h⟩ := openBoundary_frame s; rw [h]
@[simp] theorem openBoundary_schedule (s : State) :
    (openBoundary s).schedule = s.schedule.tail := by
  obtain ⟨_, _, _, h⟩ := openBoundary_frame s; rw [h]

/-- A step of an Idle core is the step at the opened boundary. -/
theorem step_of_idle {s : State} (h : s.run = .idle) : step s = boundaryStep (openBoundary s) := by
  unfold step
  rw [h]

/-- With nothing scheduled a boundary changes nothing. -/
theorem openBoundary_quiet {s : State} (h : s.schedule = []) : openBoundary s = s := by
  obtain ⟨a, x, y, sp, pc, p, cyc, run, nmi, irq, mem, answers, schedule, bus⟩ := s
  subst h
  rfl

/-! ### The canonical form of memory -/

/-- Loading an exception keeps the canonical form of memory. -/
theorem exceptionMem_wf {s : State} (h : Memory.wf s.mem = true) (ret : Addr) (status : Byte) :
    Memory.wf (exceptionMem s ret status) = true :=
  Memory.wf_write (Memory.wf_write (Memory.wf_write h _ _) _ _) _ _

theorem applyMove_wf {s : State} (h : Memory.wf s.mem = true) (m : EnvMove) :
    Memory.wf (applyMove s m).mem = true := by
  cases m
  · exact h
  · exact h
  · exact Memory.wf_write h _ _

/-- The environment's moves keep the canonical form of memory. -/
theorem openBoundary_wf {s : State} (h : Memory.wf s.mem = true) :
    Memory.wf (openBoundary s).mem = true := by
  unfold openBoundary
  have : Memory.wf ({ s with schedule := s.schedule.tail } : State).mem = true := h
  revert this
  generalize ({ s with schedule := s.schedule.tail } : State) = t
  generalize s.schedule.headD [] = ms
  intro ht
  induction ms generalizing t with
  | nil => exact ht
  | cons m ms ih => exact ih _ (applyMove_wf ht m)

theorem withFetchWord_wf {s : State} (h : Memory.wf s.mem = true) (nbits w : Nat) :
    Memory.wf (s.withFetchWord nbits w).mem = true :=
  Memory.wf_loadBytes _ _ h

/-- Memory after power-on is in canonical form. -/
theorem reset_memory_wf : Memory.wf State.reset.mem = true := rfl

end Sys2Proof.Machine
end

