-- ==== Sys2Proof/Laws/Moves.lean ====
section
/-! SUPPORT. What a step can do, said once: every instruction and every interrupt entry is a
sequence of Bus reads, Bus writes, ticks of at least one cycle, and register updates. An invariant
of the machine is then a fact about these four. -/

namespace Sys2Proof.Machine

/-- A state with its program-visible registers replaced. -/
def setRegs (r : Regs) (s : State) : State :=
  { s with a := r.a, x := r.x, y := r.y, sp := r.sp, pc := r.pc, p := r.p }

/-- What a machine can do from a state: reads, writes, ticks and register updates. -/
inductive Moves (s : State) : State → Prop
  | refl : Moves s s
  | read (a : Addr) {t : State} (h : Moves s t) : Moves s (memRead a t).2
  | write (a : Addr) (v : Byte) {t : State} (h : Moves s t) : Moves s (memWrite a v t)
  | tick (n : Nat) (hn : 1 ≤ n) {t : State} (h : Moves s t) : Moves s (Machine.tick n t)
  | regs (r : Regs) {t : State} (h : Moves s t) : Moves s (setRegs r t)

namespace Moves

theorem trans {s t u : State} (h : Moves s t) (k : Moves t u) : Moves s u := by
  induction k with
  | refl => exact h
  | read a _ ih => exact .read a ih
  | write a v _ ih => exact .write a v ih
  | tick n hn _ ih => exact .tick n hn ih
  | regs r _ ih => exact .regs r ih

/-- A state that differs from a reached one in its registers only is reached. -/
theorem byRegs {s t u : State} (h : Moves s u) (e : t = setRegs t.regs u) : Moves s t :=
  e ▸ Moves.regs t.regs h

theorem readPair (lo hi : Addr) (s : State) : Moves s (Machine.readPair lo hi s).2 :=
  .read hi (.read lo .refl)

theorem resolve (m : MemForm) (s : State) : Moves s (Machine.resolve m s).2 := by
  cases m
  all_goals first
    | exact Moves.refl
    | exact Moves.readPair _ _ s

theorem effectiveAddress (m : MemForm) (s : State) : Moves s (Machine.effectiveAddress m s).2 := by
  unfold Machine.effectiveAddress
  simp only
  split
  · exact .tick 1 (Nat.le_refl 1) (resolve m s)
  · exact resolve m s

theorem readOperand (src : Source) (s : State) : Moves s (Machine.readOperand src s).2 := by
  cases src
  · exact .refl
  · exact .read _ (effectiveAddress _ s)

theorem finish (len : Nat) {n : Nat} (hn : 1 ≤ n) {s t : State} (h : Moves s t) :
    Moves s (Machine.finish len n t) :=
  .tick n hn (.regs { t.regs with pc := t.pc + BitVec.ofNat 16 len } h)

theorem finishAt (target : Addr) {n : Nat} (hn : 1 ≤ n) {s t : State} (h : Moves s t) :
    Moves s (Machine.finishAt target n t) :=
  .tick n hn (.regs { t.regs with pc := target } h)

theorem push (v : Byte) (s : State) : Moves s (Machine.push v s) :=
  .regs { s.regs with sp := s.sp - 1 } (.write (stackAddr s.sp) v .refl)

theorem pull (s : State) : Moves s (Machine.pull s).2 :=
  .read _ (.regs { s.regs with sp := s.sp + 1 } .refl)

theorem pushAddr (a : Addr) (s : State) : Moves s (Machine.pushAddr a s) :=
  (push (highByte a) s).trans (push (lowByte a) _)

theorem pullAddr (s : State) : Moves s (Machine.pullAddr s).2 :=
  (pull s).trans (pull _)

theorem takeException (vector ret : Addr) (brk : Bool) (s : State) :
    Moves s (Machine.takeException vector ret brk s) := by
  let s1 := Machine.push (s.p.pack brk) (Machine.pushAddr ret s)
  let s2 : State := { s1 with p := { s1.p with i := true } }
  let v := read16 vector s2
  have h1 : Moves s s1 := (pushAddr ret s).trans (push _ _)
  have h2 : Moves s s2 := .regs { s1.regs with p := { s1.p with i := true } } h1
  have h3 : Moves s v.2 := h2.trans (readPair _ _ _)
  exact .regs { v.2.regs with pc := v.1 } h3

theorem interruptEntry (vector : Addr) (s : State) : Moves s (Machine.interruptEntry vector s) :=
  .tick 7 (by decide) (takeException vector s.pc false s)

theorem returnFromException (s : State) : Moves s (Machine.returnFromException s) := by
  let b := Machine.pull s
  let s1 : State := { b.2 with p := Flags.unpack b.1 }
  let v := Machine.pullAddr s1
  have h1 : Moves s s1 := .regs { b.2.regs with p := Flags.unpack b.1 } (pull s)
  have h2 : Moves s v.2 := h1.trans (pullAddr _)
  exact .regs { v.2.regs with pc := v.1 } h2

end Moves

/-- The effect of a reading or read-modify-write action touches registers only; an implied action
may also push or pull one byte. -/
def actionFits : Action → Prop
  | .read act => ∀ m s, act m s = setRegs (act m s).regs s
  | .rmw _ after => ∀ v r s, after v r s = setRegs (after v r s).regs s
  | .implied act => ∀ s, Moves s (act s)
  | .write _ | .branch _ | .jump | .jsr | .rts | .brk | .rti => True

theorem action_fits (o : Op) : actionFits (actionOf o) := by
  cases o
  case pha => exact fun s => Moves.push s.a s
  case php => exact fun s => Moves.push (s.p.pack true) s
  case pla => exact fun s => Moves.byRegs (Moves.pull s) rfl
  case plp => exact fun s => Moves.byRegs (Moves.pull s) rfl
  case nop => exact fun s => Moves.refl
  all_goals first
    | exact trivial
    | exact fun _ _ => rfl
    | exact fun _ _ _ => rfl
    | exact fun s => Moves.byRegs (Moves.refl (s := s)) rfl

/-- Every action of an instruction is a sequence of moves. -/
theorem runAction_moves (o : Op) (f : AddrForm) {n : Nat} (hn : 1 ≤ n) {s t : State}
    (h : runAction (actionOf o) f n s = .next t) : Moves s t := by
  have hfit := action_fits o
  revert h hfit
  generalize actionOf o = act
  intro h hfit
  have nothing : ∀ {u : State}, impliedInstr noEffect n s = .next u → Moves s u := by
    intro u hu
    cases hu
    exact Moves.finish _ hn .refl
  have reads : ∀ (src : Source) (g : Byte → State → State),
      (∀ m u, g m u = setRegs (g m u).regs u) → readInstr src g n s = .next t → Moves s t := by
    intro src g hg hr
    cases hr
    refine Moves.finish _ hn ?_
    rw [hg]
    exact .regs _ (Moves.readOperand src s)
  cases act with
  | read g =>
    cases f with
    | immediate v => exact reads _ g hfit h
    | mem m => exact reads _ g hfit h
    | implicit => exact nothing h
    | accumulator => exact nothing h
    | relative d => exact nothing h
  | write value =>
    cases f with
    | mem m =>
      cases h
      exact Moves.finish _ hn (.write _ _ (Moves.effectiveAddress m s))
    | implicit => exact nothing h
    | accumulator => exact nothing h
    | relative d => exact nothing h
    | immediate v => exact nothing h
  | rmw new after =>
    cases f with
    | mem m =>
      cases h
      refine Moves.finish _ hn ?_
      rw [hfit]
      exact .regs _ (.write _ _ (.read _ (Moves.effectiveAddress m s)))
    | accumulator =>
      cases h
      refine Moves.finish _ hn ?_
      rw [hfit]
      exact .regs _ (.regs { s.regs with a := new s s.a } .refl)
    | implicit => exact nothing h
    | relative d => exact nothing h
    | immediate v => exact nothing h
  | implied g =>
    cases h
    exact Moves.finish _ hn (hfit s)
  | branch cond =>
    cases f with
    | relative d =>
      have hb : branchInstr (cond s.p) d n s = .next t := h
      unfold branchInstr at hb
      split at hb
      · cases hb
        exact Moves.finishAt _ (Nat.le_trans hn (Nat.le_add_right _ _)) .refl
      · cases hb
        exact Moves.finish _ hn .refl
    | implicit => exact nothing h
    | accumulator => exact nothing h
    | immediate v => exact nothing h
    | mem m => exact nothing h
  | jump =>
    cases f with
    | mem m =>
      cases h
      exact Moves.finishAt _ hn (Moves.effectiveAddress m s)
    | implicit => exact nothing h
    | accumulator => exact nothing h
    | immediate v => exact nothing h
    | relative d => exact nothing h
  | jsr =>
    cases f with
    | mem m =>
      cases h
      exact Moves.finishAt _ hn ((Moves.effectiveAddress m s).trans (Moves.pushAddr _ _))
    | implicit => exact nothing h
    | accumulator => exact nothing h
    | immediate v => exact nothing h
    | relative d => exact nothing h
  | rts =>
    cases h
    exact Moves.finishAt _ hn (Moves.pullAddr s)
  | brk =>
    cases h
    exact .tick n hn (Moves.takeException _ _ _ s)
  | rti =>
    cases h
    exact .tick n hn (Moves.returnFromException s)

/-- Every instruction is a sequence of moves. -/
theorem exec_moves {i : Instr} {s t : State} (h : exec i s = .next t) : Moves s t := by
  rw [exec_eq] at h
  exact runAction_moves i.op i.form (Nat.le_of_succ_le (baseCycles_range i).1) h

/-- A fetch is a sequence of Bus reads. -/
theorem fetch_moves (s : State) : match fetch s with
    | .instr _ t => Moves s t
    | .unknown _ t => Moves s t := by
  have h1 : Moves s (memRead s.pc s).2 := .read _ .refl
  unfold fetch
  simp only
  cases lookup (memRead s.pc s).1 with
  | none => exact h1
  | some e =>
    cases e with
    | mk _ _ _ _ _ _ make =>
      cases make with
      | none i => exact h1
      | byte f => exact .read _ h1
      | word f => exact .read _ (.read _ h1)

/-- A step that answers a next state: the environment's moves, an NMI request perhaps cleared, and
then moves of the machine. -/
theorem step_moves {s t : State} (h : step s = .next t) :
    s.run = .idle ∧ ∃ u, (u = openBoundary s ∨ u = { openBoundary s with nmiPending := false }) ∧
      Moves u t := by
  unfold step at h
  split at h
  · cases h
  · rename_i hr
    refine ⟨hr, ?_⟩
    unfold boundaryStep at h
    split at h
    · cases h
      exact ⟨_, .inr rfl, Moves.interruptEntry _ _⟩
    · split at h
      · cases h
        exact ⟨_, .inl rfl, Moves.interruptEntry _ _⟩
      · refine ⟨_, .inl rfl, ?_⟩
        have hf := fetch_moves (openBoundary s)
        unfold instructionStep at h
        split at h
        · rename_i i u hu
          rw [hu] at hf
          exact Moves.trans hf (exec_moves h)
        · cases h

end Sys2Proof.Machine
end

