-- ==== Sys2Proof/Laws/PerInstr.lean ====
section
/-! SUPPORT. Facts proved once per instruction: the encoding has the length of the mode
(30_encoding.md R51), which lies in 1 to 3. -/

namespace Sys2Proof.Laws.EncodedLength

/-- The encoding of `i` is as long as its mode says, and that is 1, 2 or 3 bytes. -/
def Statement (i : Instr) : Prop := (encode i).length = i.len ∧ (1 ≤ i.len ∧ i.len ≤ 3)

theorem brk : Statement (.brk) := ⟨rfl, of_decide_eq_true rfl⟩
theorem oraIzx (z : Byte) : Statement (.oraIzx z) := ⟨rfl, of_decide_eq_true rfl⟩
theorem uSloIzx (z : Byte) : Statement (.uSloIzx z) := ⟨rfl, of_decide_eq_true rfl⟩
theorem uNopZp04 (z : Byte) : Statement (.uNopZp04 z) := ⟨rfl, of_decide_eq_true rfl⟩
theorem oraZp (z : Byte) : Statement (.oraZp z) := ⟨rfl, of_decide_eq_true rfl⟩
theorem aslZp (z : Byte) : Statement (.aslZp z) := ⟨rfl, of_decide_eq_true rfl⟩
theorem uSloZp (z : Byte) : Statement (.uSloZp z) := ⟨rfl, of_decide_eq_true rfl⟩
theorem php : Statement (.php) := ⟨rfl, of_decide_eq_true rfl⟩
theorem oraImm (v : Byte) : Statement (.oraImm v) := ⟨rfl, of_decide_eq_true rfl⟩
theorem aslAcc : Statement (.aslAcc) := ⟨rfl, of_decide_eq_true rfl⟩
theorem uNopAbs0C (a : Addr) : Statement (.uNopAbs0C a) := ⟨rfl, of_decide_eq_true rfl⟩
theorem oraAbs (a : Addr) : Statement (.oraAbs a) := ⟨rfl, of_decide_eq_true rfl⟩
theorem aslAbs (a : Addr) : Statement (.aslAbs a) := ⟨rfl, of_decide_eq_true rfl⟩
theorem uSloAbs (a : Addr) : Statement (.uSloAbs a) := ⟨rfl, of_decide_eq_true rfl⟩
theorem bplRel (d : Byte) : Statement (.bplRel d) := ⟨rfl, of_decide_eq_true rfl⟩
theorem oraIzy (z : Byte) : Statement (.oraIzy z) := ⟨rfl, of_decide_eq_true rfl⟩
theorem uSloIzyW (z : Byte) : Statement (.uSloIzyW z) := ⟨rfl, of_decide_eq_true rfl⟩
theorem uNopZpx14 (z : Byte) : Statement (.uNopZpx14 z) := ⟨rfl, of_decide_eq_true rfl⟩
theorem oraZpx (z : Byte) : Statement (.oraZpx z) := ⟨rfl, of_decide_eq_true rfl⟩
theorem aslZpx (z : Byte) : Statement (.aslZpx z) := ⟨rfl, of_decide_eq_true rfl⟩
theorem uSloZpx (z : Byte) : Statement (.uSloZpx z) := ⟨rfl, of_decide_eq_true rfl⟩
theorem clc : Statement (.clc) := ⟨rfl, of_decide_eq_true rfl⟩
theorem oraAby (a : Addr) : Statement (.oraAby a) := ⟨rfl, of_decide_eq_true rfl⟩
theorem uNopImp1A : Statement (.uNopImp1A) := ⟨rfl, of_decide_eq_true rfl⟩
theorem uSloAbyW (a : Addr) : Statement (.uSloAbyW a) := ⟨rfl, of_decide_eq_true rfl⟩
theorem uNopAbx1C (a : Addr) : Statement (.uNopAbx1C a) := ⟨rfl, of_decide_eq_true rfl⟩
theorem oraAbx (a : Addr) : Statement (.oraAbx a) := ⟨rfl, of_decide_eq_true rfl⟩
theorem aslAbxW (a : Addr) : Statement (.aslAbxW a) := ⟨rfl, of_decide_eq_true rfl⟩
theorem uSloAbxW (a : Addr) : Statement (.uSloAbxW a) := ⟨rfl, of_decide_eq_true rfl⟩
theorem jsrAbs (a : Addr) : Statement (.jsrAbs a) := ⟨rfl, of_decide_eq_true rfl⟩
theorem andIzx (z : Byte) : Statement (.andIzx z) := ⟨rfl, of_decide_eq_true rfl⟩
theorem uRlaIzx (z : Byte) : Statement (.uRlaIzx z) := ⟨rfl, of_decide_eq_true rfl⟩
theorem bitZp (z : Byte) : Statement (.bitZp z) := ⟨rfl, of_decide_eq_true rfl⟩
theorem andZp (z : Byte) : Statement (.andZp z) := ⟨rfl, of_decide_eq_true rfl⟩
theorem rolZp (z : Byte) : Statement (.rolZp z) := ⟨rfl, of_decide_eq_true rfl⟩
theorem uRlaZp (z : Byte) : Statement (.uRlaZp z) := ⟨rfl, of_decide_eq_true rfl⟩
theorem plp : Statement (.plp) := ⟨rfl, of_decide_eq_true rfl⟩
theorem andImm (v : Byte) : Statement (.andImm v) := ⟨rfl, of_decide_eq_true rfl⟩
theorem rolAcc : Statement (.rolAcc) := ⟨rfl, of_decide_eq_true rfl⟩
theorem bitAbs (a : Addr) : Statement (.bitAbs a) := ⟨rfl, of_decide_eq_true rfl⟩
theorem andAbs (a : Addr) : Statement (.andAbs a) := ⟨rfl, of_decide_eq_true rfl⟩
theorem rolAbs (a : Addr) : Statement (.rolAbs a) := ⟨rfl, of_decide_eq_true rfl⟩
theorem uRlaAbs (a : Addr) : Statement (.uRlaAbs a) := ⟨rfl, of_decide_eq_true rfl⟩
theorem bmiRel (d : Byte) : Statement (.bmiRel d) := ⟨rfl, of_decide_eq_true rfl⟩
theorem andIzy (z : Byte) : Statement (.andIzy z) := ⟨rfl, of_decide_eq_true rfl⟩
theorem uRlaIzyW (z : Byte) : Statement (.uRlaIzyW z) := ⟨rfl, of_decide_eq_true rfl⟩
theorem uNopZpx34 (z : Byte) : Statement (.uNopZpx34 z) := ⟨rfl, of_decide_eq_true rfl⟩
theorem andZpx (z : Byte) : Statement (.andZpx z) := ⟨rfl, of_decide_eq_true rfl⟩
theorem rolZpx (z : Byte) : Statement (.rolZpx z) := ⟨rfl, of_decide_eq_true rfl⟩
theorem uRlaZpx (z : Byte) : Statement (.uRlaZpx z) := ⟨rfl, of_decide_eq_true rfl⟩
theorem sec : Statement (.sec) := ⟨rfl, of_decide_eq_true rfl⟩
theorem andAby (a : Addr) : Statement (.andAby a) := ⟨rfl, of_decide_eq_true rfl⟩
theorem uNopImp3A : Statement (.uNopImp3A) := ⟨rfl, of_decide_eq_true rfl⟩
theorem uRlaAbyW (a : Addr) : Statement (.uRlaAbyW a) := ⟨rfl, of_decide_eq_true rfl⟩
theorem uNopAbx3C (a : Addr) : Statement (.uNopAbx3C a) := ⟨rfl, of_decide_eq_true rfl⟩
theorem andAbx (a : Addr) : Statement (.andAbx a) := ⟨rfl, of_decide_eq_true rfl⟩
theorem rolAbxW (a : Addr) : Statement (.rolAbxW a) := ⟨rfl, of_decide_eq_true rfl⟩
theorem uRlaAbxW (a : Addr) : Statement (.uRlaAbxW a) := ⟨rfl, of_decide_eq_true rfl⟩
theorem rti : Statement (.rti) := ⟨rfl, of_decide_eq_true rfl⟩
theorem eorIzx (z : Byte) : Statement (.eorIzx z) := ⟨rfl, of_decide_eq_true rfl⟩
theorem uSreIzx (z : Byte) : Statement (.uSreIzx z) := ⟨rfl, of_decide_eq_true rfl⟩
theorem uNopZp44 (z : Byte) : Statement (.uNopZp44 z) := ⟨rfl, of_decide_eq_true rfl⟩
theorem eorZp (z : Byte) : Statement (.eorZp z) := ⟨rfl, of_decide_eq_true rfl⟩
theorem lsrZp (z : Byte) : Statement (.lsrZp z) := ⟨rfl, of_decide_eq_true rfl⟩
theorem uSreZp (z : Byte) : Statement (.uSreZp z) := ⟨rfl, of_decide_eq_true rfl⟩
theorem pha : Statement (.pha) := ⟨rfl, of_decide_eq_true rfl⟩
theorem eorImm (v : Byte) : Statement (.eorImm v) := ⟨rfl, of_decide_eq_true rfl⟩
theorem lsrAcc : Statement (.lsrAcc) := ⟨rfl, of_decide_eq_true rfl⟩
theorem jmpAbs (a : Addr) : Statement (.jmpAbs a) := ⟨rfl, of_decide_eq_true rfl⟩
theorem eorAbs (a : Addr) : Statement (.eorAbs a) := ⟨rfl, of_decide_eq_true rfl⟩
theorem lsrAbs (a : Addr) : Statement (.lsrAbs a) := ⟨rfl, of_decide_eq_true rfl⟩
theorem uSreAbs (a : Addr) : Statement (.uSreAbs a) := ⟨rfl, of_decide_eq_true rfl⟩
theorem bvcRel (d : Byte) : Statement (.bvcRel d) := ⟨rfl, of_decide_eq_true rfl⟩
theorem eorIzy (z : Byte) : Statement (.eorIzy z) := ⟨rfl, of_decide_eq_true rfl⟩
theorem uSreIzyW (z : Byte) : Statement (.uSreIzyW z) := ⟨rfl, of_decide_eq_true rfl⟩
theorem uNopZpx54 (z : Byte) : Statement (.uNopZpx54 z) := ⟨rfl, of_decide_eq_true rfl⟩
theorem eorZpx (z : Byte) : Statement (.eorZpx z) := ⟨rfl, of_decide_eq_true rfl⟩
theorem lsrZpx (z : Byte) : Statement (.lsrZpx z) := ⟨rfl, of_decide_eq_true rfl⟩
theorem uSreZpx (z : Byte) : Statement (.uSreZpx z) := ⟨rfl, of_decide_eq_true rfl⟩
theorem cli : Statement (.cli) := ⟨rfl, of_decide_eq_true rfl⟩
theorem eorAby (a : Addr) : Statement (.eorAby a) := ⟨rfl, of_decide_eq_true rfl⟩
theorem uNopImp5A : Statement (.uNopImp5A) := ⟨rfl, of_decide_eq_true rfl⟩
theorem uSreAbyW (a : Addr) : Statement (.uSreAbyW a) := ⟨rfl, of_decide_eq_true rfl⟩
theorem uNopAbx5C (a : Addr) : Statement (.uNopAbx5C a) := ⟨rfl, of_decide_eq_true rfl⟩
theorem eorAbx (a : Addr) : Statement (.eorAbx a) := ⟨rfl, of_decide_eq_true rfl⟩
theorem lsrAbxW (a : Addr) : Statement (.lsrAbxW a) := ⟨rfl, of_decide_eq_true rfl⟩
theorem uSreAbxW (a : Addr) : Statement (.uSreAbxW a) := ⟨rfl, of_decide_eq_true rfl⟩
theorem rts : Statement (.rts) := ⟨rfl, of_decide_eq_true rfl⟩
theorem adcIzx (z : Byte) : Statement (.adcIzx z) := ⟨rfl, of_decide_eq_true rfl⟩
theorem uRraIzx (z : Byte) : Statement (.uRraIzx z) := ⟨rfl, of_decide_eq_true rfl⟩
theorem uNopZp64 (z : Byte) : Statement (.uNopZp64 z) := ⟨rfl, of_decide_eq_true rfl⟩
theorem adcZp (z : Byte) : Statement (.adcZp z) := ⟨rfl, of_decide_eq_true rfl⟩
theorem rorZp (z : Byte) : Statement (.rorZp z) := ⟨rfl, of_decide_eq_true rfl⟩
theorem uRraZp (z : Byte) : Statement (.uRraZp z) := ⟨rfl, of_decide_eq_true rfl⟩
theorem pla : Statement (.pla) := ⟨rfl, of_decide_eq_true rfl⟩
theorem adcImm (v : Byte) : Statement (.adcImm v) := ⟨rfl, of_decide_eq_true rfl⟩
theorem rorAcc : Statement (.rorAcc) := ⟨rfl, of_decide_eq_true rfl⟩
theorem jmpInd (p : Addr) : Statement (.jmpInd p) := ⟨rfl, of_decide_eq_true rfl⟩
theorem adcAbs (a : Addr) : Statement (.adcAbs a) := ⟨rfl, of_decide_eq_true rfl⟩
theorem rorAbs (a : Addr) : Statement (.rorAbs a) := ⟨rfl, of_decide_eq_true rfl⟩
theorem uRraAbs (a : Addr) : Statement (.uRraAbs a) := ⟨rfl, of_decide_eq_true rfl⟩
theorem bvsRel (d : Byte) : Statement (.bvsRel d) := ⟨rfl, of_decide_eq_true rfl⟩
theorem adcIzy (z : Byte) : Statement (.adcIzy z) := ⟨rfl, of_decide_eq_true rfl⟩
theorem uRraIzyW (z : Byte) : Statement (.uRraIzyW z) := ⟨rfl, of_decide_eq_true rfl⟩
theorem uNopZpx74 (z : Byte) : Statement (.uNopZpx74 z) := ⟨rfl, of_decide_eq_true rfl⟩
theorem adcZpx (z : Byte) : Statement (.adcZpx z) := ⟨rfl, of_decide_eq_true rfl⟩
theorem rorZpx (z : Byte) : Statement (.rorZpx z) := ⟨rfl, of_decide_eq_true rfl⟩
theorem uRraZpx (z : Byte) : Statement (.uRraZpx z) := ⟨rfl, of_decide_eq_true rfl⟩
theorem sei : Statement (.sei) := ⟨rfl, of_decide_eq_true rfl⟩
theorem adcAby (a : Addr) : Statement (.adcAby a) := ⟨rfl, of_decide_eq_true rfl⟩
theorem uNopImp7A : Statement (.uNopImp7A) := ⟨rfl, of_decide_eq_true rfl⟩
theorem uRraAbyW (a : Addr) : Statement (.uRraAbyW a) := ⟨rfl, of_decide_eq_true rfl⟩
theorem uNopAbx7C (a : Addr) : Statement (.uNopAbx7C a) := ⟨rfl, of_decide_eq_true rfl⟩
theorem adcAbx (a : Addr) : Statement (.adcAbx a) := ⟨rfl, of_decide_eq_true rfl⟩
theorem rorAbxW (a : Addr) : Statement (.rorAbxW a) := ⟨rfl, of_decide_eq_true rfl⟩
theorem uRraAbxW (a : Addr) : Statement (.uRraAbxW a) := ⟨rfl, of_decide_eq_true rfl⟩
theorem uNopImm80 (v : Byte) : Statement (.uNopImm80 v) := ⟨rfl, of_decide_eq_true rfl⟩
theorem staIzx (z : Byte) : Statement (.staIzx z) := ⟨rfl, of_decide_eq_true rfl⟩
theorem uNopImm82 (v : Byte) : Statement (.uNopImm82 v) := ⟨rfl, of_decide_eq_true rfl⟩
theorem uSaxIzx (z : Byte) : Statement (.uSaxIzx z) := ⟨rfl, of_decide_eq_true rfl⟩
theorem styZp (z : Byte) : Statement (.styZp z) := ⟨rfl, of_decide_eq_true rfl⟩
theorem staZp (z : Byte) : Statement (.staZp z) := ⟨rfl, of_decide_eq_true rfl⟩
theorem stxZp (z : Byte) : Statement (.stxZp z) := ⟨rfl, of_decide_eq_true rfl⟩
theorem uSaxZp (z : Byte) : Statement (.uSaxZp z) := ⟨rfl, of_decide_eq_true rfl⟩
theorem dey : Statement (.dey) := ⟨rfl, of_decide_eq_true rfl⟩
theorem uNopImm89 (v : Byte) : Statement (.uNopImm89 v) := ⟨rfl, of_decide_eq_true rfl⟩
theorem txa : Statement (.txa) := ⟨rfl, of_decide_eq_true rfl⟩
theorem styAbs (a : Addr) : Statement (.styAbs a) := ⟨rfl, of_decide_eq_true rfl⟩
theorem staAbs (a : Addr) : Statement (.staAbs a) := ⟨rfl, of_decide_eq_true rfl⟩
theorem stxAbs (a : Addr) : Statement (.stxAbs a) := ⟨rfl, of_decide_eq_true rfl⟩
theorem uSaxAbs (a : Addr) : Statement (.uSaxAbs a) := ⟨rfl, of_decide_eq_true rfl⟩
theorem bccRel (d : Byte) : Statement (.bccRel d) := ⟨rfl, of_decide_eq_true rfl⟩
theorem staIzyW (z : Byte) : Statement (.staIzyW z) := ⟨rfl, of_decide_eq_true rfl⟩
theorem styZpx (z : Byte) : Statement (.styZpx z) := ⟨rfl, of_decide_eq_true rfl⟩
theorem staZpx (z : Byte) : Statement (.staZpx z) := ⟨rfl, of_decide_eq_true rfl⟩
theorem stxZpy (z : Byte) : Statement (.stxZpy z) := ⟨rfl, of_decide_eq_true rfl⟩
theorem uSaxZpy (z : Byte) : Statement (.uSaxZpy z) := ⟨rfl, of_decide_eq_true rfl⟩
theorem tya : Statement (.tya) := ⟨rfl, of_decide_eq_true rfl⟩
theorem staAbyW (a : Addr) : Statement (.staAbyW a) := ⟨rfl, of_decide_eq_true rfl⟩
theorem txs : Statement (.txs) := ⟨rfl, of_decide_eq_true rfl⟩
theorem staAbxW (a : Addr) : Statement (.staAbxW a) := ⟨rfl, of_decide_eq_true rfl⟩
theorem ldyImm (v : Byte) : Statement (.ldyImm v) := ⟨rfl, of_decide_eq_true rfl⟩
theorem ldaIzx (z : Byte) : Statement (.ldaIzx z) := ⟨rfl, of_decide_eq_true rfl⟩
theorem ldxImm (v : Byte) : Statement (.ldxImm v) := ⟨rfl, of_decide_eq_true rfl⟩
theorem uLaxIzx (z : Byte) : Statement (.uLaxIzx z) := ⟨rfl, of_decide_eq_true rfl⟩
theorem ldyZp (z : Byte) : Statement (.ldyZp z) := ⟨rfl, of_decide_eq_true rfl⟩
theorem ldaZp (z : Byte) : Statement (.ldaZp z) := ⟨rfl, of_decide_eq_true rfl⟩
theorem ldxZp (z : Byte) : Statement (.ldxZp z) := ⟨rfl, of_decide_eq_true rfl⟩
theorem uLaxZp (z : Byte) : Statement (.uLaxZp z) := ⟨rfl, of_decide_eq_true rfl⟩
theorem tay : Statement (.tay) := ⟨rfl, of_decide_eq_true rfl⟩
theorem ldaImm (v : Byte) : Statement (.ldaImm v) := ⟨rfl, of_decide_eq_true rfl⟩
theorem tax : Statement (.tax) := ⟨rfl, of_decide_eq_true rfl⟩
theorem ldyAbs (a : Addr) : Statement (.ldyAbs a) := ⟨rfl, of_decide_eq_true rfl⟩
theorem ldaAbs (a : Addr) : Statement (.ldaAbs a) := ⟨rfl, of_decide_eq_true rfl⟩
theorem ldxAbs (a : Addr) : Statement (.ldxAbs a) := ⟨rfl, of_decide_eq_true rfl⟩
theorem uLaxAbs (a : Addr) : Statement (.uLaxAbs a) := ⟨rfl, of_decide_eq_true rfl⟩
theorem bcsRel (d : Byte) : Statement (.bcsRel d) := ⟨rfl, of_decide_eq_true rfl⟩
theorem ldaIzy (z : Byte) : Statement (.ldaIzy z) := ⟨rfl, of_decide_eq_true rfl⟩
theorem uLaxIzy (z : Byte) : Statement (.uLaxIzy z) := ⟨rfl, of_decide_eq_true rfl⟩
theorem ldyZpx (z : Byte) : Statement (.ldyZpx z) := ⟨rfl, of_decide_eq_true rfl⟩
theorem ldaZpx (z : Byte) : Statement (.ldaZpx z) := ⟨rfl, of_decide_eq_true rfl⟩
theorem ldxZpy (z : Byte) : Statement (.ldxZpy z) := ⟨rfl, of_decide_eq_true rfl⟩
theorem uLaxZpy (z : Byte) : Statement (.uLaxZpy z) := ⟨rfl, of_decide_eq_true rfl⟩
theorem clv : Statement (.clv) := ⟨rfl, of_decide_eq_true rfl⟩
theorem ldaAby (a : Addr) : Statement (.ldaAby a) := ⟨rfl, of_decide_eq_true rfl⟩
theorem tsx : Statement (.tsx) := ⟨rfl, of_decide_eq_true rfl⟩
theorem ldyAbx (a : Addr) : Statement (.ldyAbx a) := ⟨rfl, of_decide_eq_true rfl⟩
theorem ldaAbx (a : Addr) : Statement (.ldaAbx a) := ⟨rfl, of_decide_eq_true rfl⟩
theorem ldxAby (a : Addr) : Statement (.ldxAby a) := ⟨rfl, of_decide_eq_true rfl⟩
theorem uLaxAby (a : Addr) : Statement (.uLaxAby a) := ⟨rfl, of_decide_eq_true rfl⟩
theorem cpyImm (v : Byte) : Statement (.cpyImm v) := ⟨rfl, of_decide_eq_true rfl⟩
theorem cmpIzx (z : Byte) : Statement (.cmpIzx z) := ⟨rfl, of_decide_eq_true rfl⟩
theorem uNopImmC2 (v : Byte) : Statement (.uNopImmC2 v) := ⟨rfl, of_decide_eq_true rfl⟩
theorem uDcpIzx (z : Byte) : Statement (.uDcpIzx z) := ⟨rfl, of_decide_eq_true rfl⟩
theorem cpyZp (z : Byte) : Statement (.cpyZp z) := ⟨rfl, of_decide_eq_true rfl⟩
theorem cmpZp (z : Byte) : Statement (.cmpZp z) := ⟨rfl, of_decide_eq_true rfl⟩
theorem decZp (z : Byte) : Statement (.decZp z) := ⟨rfl, of_decide_eq_true rfl⟩
theorem uDcpZp (z : Byte) : Statement (.uDcpZp z) := ⟨rfl, of_decide_eq_true rfl⟩
theorem iny : Statement (.iny) := ⟨rfl, of_decide_eq_true rfl⟩
theorem cmpImm (v : Byte) : Statement (.cmpImm v) := ⟨rfl, of_decide_eq_true rfl⟩
theorem dex : Statement (.dex) := ⟨rfl, of_decide_eq_true rfl⟩
theorem cpyAbs (a : Addr) : Statement (.cpyAbs a) := ⟨rfl, of_decide_eq_true rfl⟩
theorem cmpAbs (a : Addr) : Statement (.cmpAbs a) := ⟨rfl, of_decide_eq_true rfl⟩
theorem decAbs (a : Addr) : Statement (.decAbs a) := ⟨rfl, of_decide_eq_true rfl⟩
theorem uDcpAbs (a : Addr) : Statement (.uDcpAbs a) := ⟨rfl, of_decide_eq_true rfl⟩
theorem bneRel (d : Byte) : Statement (.bneRel d) := ⟨rfl, of_decide_eq_true rfl⟩
theorem cmpIzy (z : Byte) : Statement (.cmpIzy z) := ⟨rfl, of_decide_eq_true rfl⟩
theorem uDcpIzyW (z : Byte) : Statement (.uDcpIzyW z) := ⟨rfl, of_decide_eq_true rfl⟩
theorem uNopZpxD4 (z : Byte) : Statement (.uNopZpxD4 z) := ⟨rfl, of_decide_eq_true rfl⟩
theorem cmpZpx (z : Byte) : Statement (.cmpZpx z) := ⟨rfl, of_decide_eq_true rfl⟩
theorem decZpx (z : Byte) : Statement (.decZpx z) := ⟨rfl, of_decide_eq_true rfl⟩
theorem uDcpZpx (z : Byte) : Statement (.uDcpZpx z) := ⟨rfl, of_decide_eq_true rfl⟩
theorem cld : Statement (.cld) := ⟨rfl, of_decide_eq_true rfl⟩
theorem cmpAby (a : Addr) : Statement (.cmpAby a) := ⟨rfl, of_decide_eq_true rfl⟩
theorem uNopImpDA : Statement (.uNopImpDA) := ⟨rfl, of_decide_eq_true rfl⟩
theorem uDcpAbyW (a : Addr) : Statement (.uDcpAbyW a) := ⟨rfl, of_decide_eq_true rfl⟩
theorem uNopAbxDC (a : Addr) : Statement (.uNopAbxDC a) := ⟨rfl, of_decide_eq_true rfl⟩
theorem cmpAbx (a : Addr) : Statement (.cmpAbx a) := ⟨rfl, of_decide_eq_true rfl⟩
theorem decAbxW (a : Addr) : Statement (.decAbxW a) := ⟨rfl, of_decide_eq_true rfl⟩
theorem uDcpAbxW (a : Addr) : Statement (.uDcpAbxW a) := ⟨rfl, of_decide_eq_true rfl⟩
theorem cpxImm (v : Byte) : Statement (.cpxImm v) := ⟨rfl, of_decide_eq_true rfl⟩
theorem sbcIzx (z : Byte) : Statement (.sbcIzx z) := ⟨rfl, of_decide_eq_true rfl⟩
theorem uNopImmE2 (v : Byte) : Statement (.uNopImmE2 v) := ⟨rfl, of_decide_eq_true rfl⟩
theorem uIsbIzx (z : Byte) : Statement (.uIsbIzx z) := ⟨rfl, of_decide_eq_true rfl⟩
theorem cpxZp (z : Byte) : Statement (.cpxZp z) := ⟨rfl, of_decide_eq_true rfl⟩
theorem sbcZp (z : Byte) : Statement (.sbcZp z) := ⟨rfl, of_decide_eq_true rfl⟩
theorem incZp (z : Byte) : Statement (.incZp z) := ⟨rfl, of_decide_eq_true rfl⟩
theorem uIsbZp (z : Byte) : Statement (.uIsbZp z) := ⟨rfl, of_decide_eq_true rfl⟩
theorem inx : Statement (.inx) := ⟨rfl, of_decide_eq_true rfl⟩
theorem sbcImm (v : Byte) : Statement (.sbcImm v) := ⟨rfl, of_decide_eq_true rfl⟩
theorem nop : Statement (.nop) := ⟨rfl, of_decide_eq_true rfl⟩
theorem uSbcImm (v : Byte) : Statement (.uSbcImm v) := ⟨rfl, of_decide_eq_true rfl⟩
theorem cpxAbs (a : Addr) : Statement (.cpxAbs a) := ⟨rfl, of_decide_eq_true rfl⟩
theorem sbcAbs (a : Addr) : Statement (.sbcAbs a) := ⟨rfl, of_decide_eq_true rfl⟩
theorem incAbs (a : Addr) : Statement (.incAbs a) := ⟨rfl, of_decide_eq_true rfl⟩
theorem uIsbAbs (a : Addr) : Statement (.uIsbAbs a) := ⟨rfl, of_decide_eq_true rfl⟩
theorem beqRel (d : Byte) : Statement (.beqRel d) := ⟨rfl, of_decide_eq_true rfl⟩
theorem sbcIzy (z : Byte) : Statement (.sbcIzy z) := ⟨rfl, of_decide_eq_true rfl⟩
theorem uIsbIzyW (z : Byte) : Statement (.uIsbIzyW z) := ⟨rfl, of_decide_eq_true rfl⟩
theorem uNopZpxF4 (z : Byte) : Statement (.uNopZpxF4 z) := ⟨rfl, of_decide_eq_true rfl⟩
theorem sbcZpx (z : Byte) : Statement (.sbcZpx z) := ⟨rfl, of_decide_eq_true rfl⟩
theorem incZpx (z : Byte) : Statement (.incZpx z) := ⟨rfl, of_decide_eq_true rfl⟩
theorem uIsbZpx (z : Byte) : Statement (.uIsbZpx z) := ⟨rfl, of_decide_eq_true rfl⟩
theorem sed : Statement (.sed) := ⟨rfl, of_decide_eq_true rfl⟩
theorem sbcAby (a : Addr) : Statement (.sbcAby a) := ⟨rfl, of_decide_eq_true rfl⟩
theorem uNopImpFA : Statement (.uNopImpFA) := ⟨rfl, of_decide_eq_true rfl⟩
theorem uIsbAbyW (a : Addr) : Statement (.uIsbAbyW a) := ⟨rfl, of_decide_eq_true rfl⟩
theorem uNopAbxFC (a : Addr) : Statement (.uNopAbxFC a) := ⟨rfl, of_decide_eq_true rfl⟩
theorem sbcAbx (a : Addr) : Statement (.sbcAbx a) := ⟨rfl, of_decide_eq_true rfl⟩
theorem incAbxW (a : Addr) : Statement (.incAbxW a) := ⟨rfl, of_decide_eq_true rfl⟩
theorem uIsbAbxW (a : Addr) : Statement (.uIsbAbxW a) := ⟨rfl, of_decide_eq_true rfl⟩

end Sys2Proof.Laws.EncodedLength
end

