-- ==== Sys2Proof/Tests/Slice0.lean ====
section
/-! SUPPORT. The model's own tests. Every expected result comes from the spec: the decode tests
from words written out from 30_encoding.md R53 to R57, the step tests from the vectors V<n> of
95_test_vectors.md. The last part holds a witness for the hypotheses of every statement that has
hypotheses. -/

namespace Sys2Proof.Tests

open Sys2Proof Sys2Proof.Machine

section

-- One theorem after the other: each is small, and there are many.
set_option Elab.async false

/-! ### Well-formedness: a registry with a defect is refused at startup (60_exceptions.md R203) -/

def goodEntry : OpcodeEntry := ⟨0xEA, .nop, .implicit, 1, 2, .none, .none .nop⟩

theorem test_registry_is_well_formed : registryWellFormed registry = true := by decide +kernel

theorem test_duplicate_byte_is_refused :
    registryDefects [goodEntry, { goodEntry with op := .clc, make := .none .clc }] =
      [.duplicateByte 0xEA] := by decide

theorem test_wrong_length_is_refused :
    registryWellFormed [{ goodEntry with len := 2, make := .byte .andImm }] = false ∧
    registryDefects [{ goodEntry with len := 2, make := .byte .andImm }] =
      [.lengthMismatch 0xEA] := by decide

theorem test_wrong_operand_count_is_refused :
    registryDefects [{ goodEntry with make := .byte .andImm }] = [.operandMismatch 0xEA] := by
  decide

/-! ### Decoding: words written bit by bit from the spec's encodings -/

theorem test_decode_logical :
    decode [0b00100100, 0b00010000] = .ok (.bitZp 0x10) [] ∧
    decode [0b00011101, 0b11111111, 0b00010010] = .ok (.oraAbx 0x12FF) [] ∧
    decode [0b01010001, 0b10000110] = .ok (.eorIzy 0x86) [] := by decide +kernel

theorem test_decode_arithmetic :
    decode [0b01101001, 0b01010000] = .ok (.adcImm 0x50) [] ∧
    decode [0b11110101, 0b00010000] = .ok (.sbcZpx 0x10) [] ∧
    decode [0b11111110, 0b11111111, 0b00010010] = .ok (.incAbxW 0x12FF) [] ∧
    decode [0b11001010] = .ok .dex [] := by decide +kernel

theorem test_decode_shift :
    decode [0b00001010] = .ok .aslAcc [] ∧ decode [0b01010110, 0b00010000] = .ok (.lsrZpx 0x10) [] ∧
    decode [0b00111110, 0b00000000, 0b00010010] = .ok (.rolAbxW 0x1200) [] := by decide +kernel

theorem test_decode_load_store_transfer :
    decode [0b10100001, 0b11111110] = .ok (.ldaIzx 0xFE) [] ∧
    decode [0b10110110, 0b11111111] = .ok (.ldxZpy 0xFF) [] ∧
    decode [0b10010001, 0b00100000] = .ok (.staIzyW 0x20) [] ∧
    decode [0b10111010] = .ok .tsx [] := by decide +kernel

theorem test_decode_compare :
    decode [0b11001001, 0b01000000] = .ok (.cmpImm 0x40) [] ∧
    decode [0b11101100, 0b00000000, 0b00000010] = .ok (.cpxAbs 0x0200) [] := by decide +kernel

theorem test_decode_branch_jump :
    decode [0b10010000, 0b01111111] = .ok (.bccRel 0x7F) [] ∧
    decode [0b01101100, 0b11111111, 0b00110000] = .ok (.jmpInd 0x30FF) [] ∧
    decode [0b00100000, 0b00110100, 0b00010010] = .ok (.jsrAbs 0x1234) [] := by decide +kernel

theorem test_decode_stack_flag :
    decode [0b00101000] = .ok .plp [] ∧ decode [0b10111000] = .ok .clv [] := by decide +kernel

theorem test_decode_system :
    decode [0b00000000] = .ok .brk [] ∧ decode [0b01000000] = .ok .rti [] ∧
    decode [0b11101010] = .ok .nop [] := by decide +kernel

theorem test_decode_undocumented :
    decode [0b11101011, 0b00000001] = .ok (.uSbcImm 0x01) [] ∧
    decode [0b11000111, 0b00010000] = .ok (.uDcpZp 0x10) [] ∧
    decode [0b00011011, 0b00000000, 0b00010010] = .ok (.uSloAbyW 0x1200) [] ∧
    decode [0b10000000, 0b11111111] = .ok (.uNopImm80 0xFF) [] := by decide +kernel

theorem test_decode_rejects_by_name :
    decode [0b00000010] = .unknownOpcode 0x02 ∧ decode [0b11110010, 0b00000000] =
      .unknownOpcode 0xF2 ∧ decode [0b10101101, 0b00000000] = .truncated := by decide +kernel

theorem test_decodeTableWord :
    decodeTableWord 24 0x1234AD = some (.ldaAbs 0x1234) ∧ decodeTableWord 16 0x80A9 =
      some (.ldaImm 0x80) ∧ decodeTableWord 8 0x02 = none := by decide +kernel

theorem test_encode_writes_the_field_low_byte_first :
    encode (.jsrAbs 0x1234) = [0x20, 0x34, 0x12] ∧ encode (.bneRel 0xFE) = [0xD0, 0xFE] := by
  decide +kernel

/-! ### One step: vectors of 95_test_vectors.md

Each test states the registers `A X Y SP P PC`, the cycles and the complete list of Bus events the
vector gives; the writes in that list are the cells written. -/

/-- The start state of the vectors: `A=00 X=00 Y=00 SP=FD P=24 PC=C000`, cycles counted from 0. -/
def start (mem : Memory) : State where
  a := 0x00
  x := 0x00
  y := 0x00
  sp := 0xFD
  pc := 0xC000
  p := Flags.unpack 0x24
  cyc := 0
  run := .idle
  nmiPending := false
  irqLine := false
  mem := mem
  answers := []
  schedule := []
  bus := []

/-- What a vector states of the state after a step. -/
structure Seen where
  a : Byte
  x : Byte
  y : Byte
  sp : Byte
  p : Byte
  pc : Addr
  cyc : Nat
  bus : List BusEvent
  deriving DecidableEq, Repr

def seen (a x y sp p : Byte) (pc : Addr) (cyc : Nat) (bus : List BusEvent) : Seen :=
  ⟨a, x, y, sp, p, pc, cyc, bus⟩

def seenOf (s : State) : Seen := ⟨s.a, s.x, s.y, s.sp, s.pByte, s.pc, s.cyc, s.bus⟩

def stateOf : Result → Option State
  | .next t => some t
  | _ => none

def seenAfter (s : State) : Option Seen := (stateOf (step s)).map seenOf

def faultOf : Result → Option (Addr × Byte × Seen)
  | .fault (.unknownOpcode pc b t) => some (pc, b, seenOf t)
  | _ => none

/-- V3: `LDA $F0,X`. -/
theorem test_V3_lda :
    seenAfter ({ start [(0x0010, 0x55), (0x0110, 0xAA), (0xC000, 0xB5), (0xC001, 0xF0)] with
      x := 0x20 }) = some (seen 0x55 0x20 0x00 0xFD 0x24 0xC002 4
    [.read 0xC000 0xB5, .read 0xC001 0xF0, .read 0x0010 0x55, .tick 4]) := by decide +kernel

/-- V4: `LDX $FF,Y`. -/
theorem test_V4_ldx :
    seenAfter ({ start [(0x0001, 0x33), (0x0101, 0x99), (0xC000, 0xB6), (0xC001, 0xFF)] with
      y := 0x02 }) = some (seen 0x00 0x33 0x02 0xFD 0x24 0xC002 4
    [.read 0xC000 0xB6, .read 0xC001 0xFF, .read 0x0001 0x33, .tick 4]) := by decide +kernel

/-- V7: `LDA $12FF,X`. -/
theorem test_V7_lda :
    seenAfter ({ start [(0x1300, 0x42), (0xC000, 0xBD), (0xC001, 0xFF), (0xC002, 0x12)] with
      x := 0x01 }) = some (seen 0x42 0x01 0x00 0xFD 0x24 0xC003 5
    [.read 0xC000 0xBD, .read 0xC001 0xFF, .read 0xC002 0x12, .tick 1,
      .read 0x1300 0x42, .tick 4]) := by decide +kernel

/-- V10: `LDA $FFFF,X`. -/
theorem test_V10_lda :
    seenAfter ({ start [(0x0000, 0x77), (0xC000, 0xBD), (0xC001, 0xFF), (0xC002, 0xFF)] with
      x := 0x01 }) = some (seen 0x77 0x01 0x00 0xFD 0x24 0xC003 5
    [.read 0xC000 0xBD, .read 0xC001 0xFF, .read 0xC002 0xFF, .tick 1,
      .read 0x0000 0x77, .tick 4]) := by decide +kernel

/-- V11: `LDA ($FE,X)`. -/
theorem test_V11_lda :
    seenAfter ({ start [(0x0000, 0x12), (0x00FF, 0x34), (0x0100, 0x99), (0x1234, 0x5A),
      (0xC000, 0xA1), (0xC001, 0xFE)] with
      x := 0x01 }) = some (seen 0x5A 0x01 0x00 0xFD 0x24 0xC002 6
    [.read 0xC000 0xA1, .read 0xC001 0xFE, .read 0x00FF 0x34, .read 0x0000 0x12,
      .read 0x1234 0x5A, .tick 6]) := by decide +kernel

/-- V15: `LDA ($FF),Y`. -/
theorem test_V15_lda :
    seenAfter ({ start [(0x0000, 0x03), (0x0100, 0x09), (0x0301, 0xC3), (0xC000, 0xB1),
      (0xC001, 0xFF)] with
      y := 0x01 }) = some (seen 0xC3 0x00 0x01 0xFD 0xA4 0xC002 5
    [.read 0xC000 0xB1, .read 0xC001 0xFF, .read 0x00FF 0x00, .read 0x0000 0x03,
      .read 0x0301 0xC3, .tick 5]) := by decide +kernel

/-- V17: `STA $12FF,X`. -/
theorem test_V17_sta :
    seenAfter ({ start [(0xC000, 0x9D), (0xC001, 0xFF), (0xC002, 0x12)] with
      a := 0xAB, x := 0x01 }) = some (seen 0xAB 0x01 0x00 0xFD 0x24 0xC003 5
    [.read 0xC000 0x9D, .read 0xC001 0xFF, .read 0xC002 0x12, .write 0x1300 0xAB,
      .tick 5]) := by decide +kernel

/-- V20: `STA ($20),Y`. -/
theorem test_V20_sta :
    seenAfter ({ start [(0x0020, 0xF8), (0x0021, 0x02), (0xC000, 0x91), (0xC001, 0x20)] with
      a := 0xAB, y := 0x10 }) = some (seen 0xAB 0x00 0x10 0xFD 0x24 0xC002 6
    [.read 0xC000 0x91, .read 0xC001 0x20, .read 0x0020 0xF8, .read 0x0021 0x02,
      .write 0x0308 0xAB, .tick 6]) := by decide +kernel

/-- V21: `STA ($FE,X)`. -/
theorem test_V21_sta :
    seenAfter ({ start [(0x0000, 0x12), (0x00FF, 0x34), (0xC000, 0x81), (0xC001, 0xFE)] with
      a := 0xAB, x := 0x01 }) = some (seen 0xAB 0x01 0x00 0xFD 0x24 0xC002 6
    [.read 0xC000 0x81, .read 0xC001 0xFE, .read 0x00FF 0x34, .read 0x0000 0x12,
      .write 0x1234 0xAB, .tick 6]) := by decide +kernel

/-- V22: `JMP ($30FF)`. -/
theorem test_V22_jmp :
    seenAfter (start [(0x3000, 0x40), (0x30FF, 0x80), (0x3100, 0x50), (0xC000, 0x6C),
      (0xC001, 0xFF), (0xC002, 0x30)]) = some (seen 0x00 0x00 0x00 0xFD 0x24 0x4080 5
    [.read 0xC000 0x6C, .read 0xC001 0xFF, .read 0xC002 0x30, .read 0x30FF 0x80,
      .read 0x3000 0x40, .tick 5]) := by decide +kernel

/-- V24: `LDA #$05`. -/
theorem test_V24_lda :
    seenAfter ({ start [(0x0000, 0x05), (0xFFFF, 0xA9)] with
      pc := 0xFFFF }) = some (seen 0x05 0x00 0x00 0xFD 0x24 0x0001 2
    [.read 0xFFFF 0xA9, .read 0x0000 0x05, .tick 2]) := by decide +kernel

/-- V29: `AND $12FF,X`. -/
theorem test_V29_and :
    seenAfter ({ start [(0x1300, 0x80), (0xC000, 0x3D), (0xC001, 0xFF), (0xC002, 0x12)] with
      a := 0xFF, x := 0x01 }) = some (seen 0x80 0x01 0x00 0xFD 0xA4 0xC003 5
    [.read 0xC000 0x3D, .read 0xC001 0xFF, .read 0xC002 0x12, .tick 1,
      .read 0x1300 0x80, .tick 4]) := by decide +kernel

/-- V32: `ORA ($20,X)`. -/
theorem test_V32_ora :
    seenAfter ({ start [(0x0020, 0x04), (0x0400, 0x02), (0xC000, 0x01), (0xC001, 0x20)] with
      a := 0x01, x := 0xFF }) = some (seen 0x03 0xFF 0x00 0xFD 0x24 0xC002 6
    [.read 0xC000 0x01, .read 0xC001 0x20, .read 0x001F 0x00, .read 0x0020 0x04,
      .read 0x0400 0x02, .tick 6]) := by decide +kernel

/-- V35: `EOR ($86),Y`. -/
theorem test_V35_eor :
    seenAfter ({ start [(0x0086, 0x28), (0x0087, 0x40), (0x4108, 0xF0), (0xC000, 0x51),
      (0xC001, 0x86)] with
      a := 0x0F, y := 0xE0 }) = some (seen 0xFF 0x00 0xE0 0xFD 0xA4 0xC002 6
    [.read 0xC000 0x51, .read 0xC001 0x86, .read 0x0086 0x28, .read 0x0087 0x40,
      .tick 1, .read 0x4108 0xF0, .tick 5]) := by decide +kernel

/-- V36: `BIT $10`. -/
theorem test_V36_bit :
    seenAfter ({ start [(0x0010, 0xC0), (0xC000, 0x24), (0xC001, 0x10)] with
      a := 0x01 }) = some (seen 0x01 0x00 0x00 0xFD 0xE6 0xC002 3
    [.read 0xC000 0x24, .read 0xC001 0x10, .read 0x0010 0xC0, .tick 3]) := by decide +kernel

/-- V39: `BIT $10`. -/
theorem test_V39_bit :
    seenAfter ({ start [(0xC000, 0x24), (0xC001, 0x10)] with
      p := Flags.unpack 0xE5 }) = some (seen 0x00 0x00 0x00 0xFD 0x27 0xC002 3
    [.read 0xC000 0x24, .read 0xC001 0x10, .read 0x0010 0x00, .tick 3]) := by decide +kernel

/-- V43: `ADC #$90`. -/
theorem test_V43_adc :
    seenAfter ({ start [(0xC000, 0x69), (0xC001, 0x90)] with
      a := 0xD0 }) = some (seen 0x60 0x00 0x00 0xFD 0x65 0xC002 2
    [.read 0xC000 0x69, .read 0xC001 0x90, .tick 2]) := by decide +kernel

/-- V45: `ADC #$7F`. -/
theorem test_V45_adc :
    seenAfter ({ start [(0xC000, 0x69), (0xC001, 0x7F)] with
      a := 0x80 }) = some (seen 0xFF 0x00 0x00 0xFD 0xA4 0xC002 2
    [.read 0xC000 0x69, .read 0xC001 0x7F, .tick 2]) := by decide +kernel

/-- V48: `ADC $12FF,Y`. -/
theorem test_V48_adc :
    seenAfter ({ start [(0x1300, 0x20), (0xC000, 0x79), (0xC001, 0xFF), (0xC002, 0x12)] with
      a := 0x10, y := 0x01 }) = some (seen 0x30 0x00 0x01 0xFD 0x24 0xC003 5
    [.read 0xC000 0x79, .read 0xC001 0xFF, .read 0xC002 0x12, .tick 1,
      .read 0x1300 0x20, .tick 4]) := by decide +kernel

/-- V49: `SBC #$01`. -/
theorem test_V49_sbc :
    seenAfter ({ start [(0xC000, 0xE9), (0xC001, 0x01)] with
      p := Flags.unpack 0x25 }) = some (seen 0xFF 0x00 0x00 0xFD 0xA4 0xC002 2
    [.read 0xC000 0xE9, .read 0xC001 0x01, .tick 2]) := by decide +kernel

/-- V52: `SBC #$40`. -/
theorem test_V52_sbc :
    seenAfter ({ start [(0xC000, 0xE9), (0xC001, 0x40)] with
      a := 0x40, p := Flags.unpack 0x25 }) = some (seen 0x00 0x00 0x00 0xFD 0x27 0xC002 2
    [.read 0xC000 0xE9, .read 0xC001 0x40, .tick 2]) := by decide +kernel

/-- V56: `SBC $10,X`. -/
theorem test_V56_sbc :
    seenAfter ({ start [(0x0011, 0x03), (0xC000, 0xF5), (0xC001, 0x10)] with
      a := 0x05, x := 0x01 }) = some (seen 0x01 0x01 0x00 0xFD 0x25 0xC002 4
    [.read 0xC000 0xF5, .read 0xC001 0x10, .read 0x0011 0x03, .tick 4]) := by decide +kernel

/-- V58: `INC $10`. -/
theorem test_V58_inc :
    seenAfter ({ start [(0x0010, 0x7F), (0xC000, 0xE6), (0xC001, 0x10)] with
      p := Flags.unpack 0x65 }) = some (seen 0x00 0x00 0x00 0xFD 0xE5 0xC002 5
    [.read 0xC000 0xE6, .read 0xC001 0x10, .read 0x0010 0x7F, .write 0x0010 0x80,
      .tick 5]) := by decide +kernel

/-- V59: `INC $12FF,X`. -/
theorem test_V59_inc :
    seenAfter ({ start [(0x1300, 0x7F), (0xC000, 0xFE), (0xC001, 0xFF), (0xC002, 0x12)] with
      x := 0x01 }) = some (seen 0x00 0x01 0x00 0xFD 0xA4 0xC003 7
    [.read 0xC000 0xFE, .read 0xC001 0xFF, .read 0xC002 0x12, .read 0x1300 0x7F,
      .write 0x1300 0x80, .tick 7]) := by decide +kernel

/-- V63: `DEC $10,X`. -/
theorem test_V63_dec :
    seenAfter ({ start [(0x0005, 0x80), (0xC000, 0xD6), (0xC001, 0x10)] with
      x := 0xF5 }) = some (seen 0x00 0xF5 0x00 0xFD 0x24 0xC002 6
    [.read 0xC000 0xD6, .read 0xC001 0x10, .read 0x0005 0x80, .write 0x0005 0x7F,
      .tick 6]) := by decide +kernel

/-- V65: `INX`. -/
theorem test_V65_inx :
    seenAfter ({ start [(0xC000, 0xE8)] with
      x := 0x7F, p := Flags.unpack 0x65 }) = some (seen 0x00 0x80 0x00 0xFD 0xE5 0xC001 2
    [.read 0xC000 0xE8, .tick 2]) := by decide +kernel

/-- V66: `INY`. -/
theorem test_V66_iny :
    seenAfter ({ start [(0xC000, 0xC8)] with
      y := 0x7F }) = some (seen 0x00 0x00 0x80 0xFD 0xA4 0xC001 2
    [.read 0xC000 0xC8, .tick 2]) := by decide +kernel

/-- V69: `DEX`. -/
theorem test_V69_dex :
    seenAfter ({ start [(0xC000, 0xCA)] with
      x := 0x01 }) = some (seen 0x00 0x00 0x00 0xFD 0x26 0xC001 2
    [.read 0xC000 0xCA, .tick 2]) := by decide +kernel

/-- V70: `DEY`. -/
theorem test_V70_dey :
    seenAfter ({ start [(0xC000, 0x88)] with
      y := 0x01 }) = some (seen 0x00 0x00 0x00 0xFD 0x26 0xC001 2
    [.read 0xC000 0x88, .tick 2]) := by decide +kernel

/-- V73: `ASL A`. -/
theorem test_V73_asl :
    seenAfter ({ start [(0xC000, 0x0A)] with
      a := 0x41, p := Flags.unpack 0x25 }) = some (seen 0x82 0x00 0x00 0xFD 0xA4 0xC001 2
    [.read 0xC000 0x0A, .tick 2]) := by decide +kernel

/-- V75: `ASL $12FF,X`. -/
theorem test_V75_asl :
    seenAfter ({ start [(0x1300, 0x01), (0xC000, 0x1E), (0xC001, 0xFF), (0xC002, 0x12)] with
      x := 0x01 }) = some (seen 0x00 0x01 0x00 0xFD 0x24 0xC003 7
    [.read 0xC000 0x1E, .read 0xC001 0xFF, .read 0xC002 0x12, .read 0x1300 0x01,
      .write 0x1300 0x02, .tick 7]) := by decide +kernel

/-- V77: `LSR A`. -/
theorem test_V77_lsr :
    seenAfter ({ start [(0xC000, 0x4A)] with
      a := 0x80, p := Flags.unpack 0xA5 }) = some (seen 0x40 0x00 0x00 0xFD 0x24 0xC001 2
    [.read 0xC000 0x4A, .tick 2]) := by decide +kernel

/-- V78: `LSR $10,X`. -/
theorem test_V78_lsr :
    seenAfter ({ start [(0x0012, 0xFF), (0xC000, 0x56), (0xC001, 0x10)] with
      x := 0x02 }) = some (seen 0x00 0x02 0x00 0xFD 0x25 0xC002 6
    [.read 0xC000 0x56, .read 0xC001 0x10, .read 0x0012 0xFF, .write 0x0012 0x7F,
      .tick 6]) := by decide +kernel

/-- V82: `ROL A`. -/
theorem test_V82_rol :
    seenAfter ({ start [(0xC000, 0x2A)] with
      a := 0x40, p := Flags.unpack 0x25 }) = some (seen 0x81 0x00 0x00 0xFD 0xA4 0xC001 2
    [.read 0xC000 0x2A, .tick 2]) := by decide +kernel

/-- V83: `ROL $10`. -/
theorem test_V83_rol :
    seenAfter ({ start [(0xC000, 0x26), (0xC001, 0x10)] with
      p := Flags.unpack 0x25 }) = some (seen 0x00 0x00 0x00 0xFD 0x24 0xC002 5
    [.read 0xC000 0x26, .read 0xC001 0x10, .read 0x0010 0x00, .write 0x0010 0x01,
      .tick 5]) := by decide +kernel

/-- V87: `ROR A`. -/
theorem test_V87_ror :
    seenAfter ({ start [(0xC000, 0x6A)] with
      p := Flags.unpack 0x25 }) = some (seen 0x80 0x00 0x00 0xFD 0xA4 0xC001 2
    [.read 0xC000 0x6A, .tick 2]) := by decide +kernel

/-- V89: `ROR $0200`. -/
theorem test_V89_ror :
    seenAfter ({ start [(0x0200, 0xFE), (0xC000, 0x6E), (0xC002, 0x02)] with
      p := Flags.unpack 0x25 }) = some (seen 0x00 0x00 0x00 0xFD 0xA4 0xC003 6
    [.read 0xC000 0x6E, .read 0xC001 0x00, .read 0xC002 0x02, .read 0x0200 0xFE,
      .write 0x0200 0xFF, .tick 6]) := by decide +kernel

/-- V93: `LDX $12FF,Y`. -/
theorem test_V93_ldx :
    seenAfter ({ start [(0x1300, 0x80), (0xC000, 0xBE), (0xC001, 0xFF), (0xC002, 0x12)] with
      y := 0x01 }) = some (seen 0x00 0x80 0x01 0xFD 0xA4 0xC003 5
    [.read 0xC000 0xBE, .read 0xC001 0xFF, .read 0xC002 0x12, .tick 1,
      .read 0x1300 0x80, .tick 4]) := by decide +kernel

/-- V95: `LDY $10,X`. -/
theorem test_V95_ldy :
    seenAfter ({ start [(0x0011, 0xF0), (0xC000, 0xB4), (0xC001, 0x10)] with
      x := 0x01 }) = some (seen 0x00 0x01 0xF0 0xFD 0xA4 0xC002 4
    [.read 0xC000 0xB4, .read 0xC001 0x10, .read 0x0011 0xF0, .tick 4]) := by decide +kernel

/-- V101: `STX $10,Y`. -/
theorem test_V101_stx :
    seenAfter ({ start [(0xC000, 0x96), (0xC001, 0x10)] with
      x := 0x12, y := 0xF1 }) = some (seen 0x00 0x12 0xF1 0xFD 0x24 0xC002 4
    [.read 0xC000 0x96, .read 0xC001 0x10, .write 0x0001 0x12, .tick 4]) := by decide +kernel

/-- V104: `STY $10,X`. -/
theorem test_V104_sty :
    seenAfter ({ start [(0xC000, 0x94), (0xC001, 0x10)] with
      x := 0x01, y := 0x34 }) = some (seen 0x00 0x01 0x34 0xFD 0x24 0xC002 4
    [.read 0xC000 0x94, .read 0xC001 0x10, .write 0x0011 0x34, .tick 4]) := by decide +kernel

/-- V106: `TAX`. -/
theorem test_V106_tax :
    seenAfter ({ start [(0xC000, 0xAA)] with
      a := 0x80 }) = some (seen 0x80 0x80 0x00 0xFD 0xA4 0xC001 2
    [.read 0xC000 0xAA, .tick 2]) := by decide +kernel

/-- V108: `TAY`. -/
theorem test_V108_tay :
    seenAfter ({ start [(0xC000, 0xA8)] with
      a := 0x7F, p := Flags.unpack 0xA6 }) = some (seen 0x7F 0x00 0x7F 0xFD 0x24 0xC001 2
    [.read 0xC000 0xA8, .tick 2]) := by decide +kernel

/-- V110: `TXA`. -/
theorem test_V110_txa :
    seenAfter ({ start [(0xC000, 0x8A)] with
      x := 0xC0 }) = some (seen 0xC0 0xC0 0x00 0xFD 0xA4 0xC001 2
    [.read 0xC000 0x8A, .tick 2]) := by decide +kernel

/-- V111: `TYA`. -/
theorem test_V111_tya :
    seenAfter ({ start [(0xC000, 0x98)] with
      a := 0x80, y := 0x01, p := Flags.unpack 0xA4 }) = some (seen 0x01 0x00 0x01 0xFD 0x24 0xC001 2
    [.read 0xC000 0x98, .tick 2]) := by decide +kernel

/-- V112: `TSX`. -/
theorem test_V112_tsx :
    seenAfter (start [(0xC000, 0xBA)]) = some (seen 0x00 0xFD 0x00 0xFD 0xA4 0xC001 2
    [.read 0xC000 0xBA, .tick 2]) := by decide +kernel

/-- V114: `TXS`. -/
theorem test_V114_txs :
    seenAfter (start [(0xC000, 0x9A)]) = some (seen 0x00 0x00 0x00 0x00 0x24 0xC001 2
    [.read 0xC000 0x9A, .tick 2]) := by decide +kernel

/-- V118: `CMP #$3F`. -/
theorem test_V118_cmp :
    seenAfter ({ start [(0xC000, 0xC9), (0xC001, 0x3F)] with
      a := 0x40, p := Flags.unpack 0xE4 }) = some (seen 0x40 0x00 0x00 0xFD 0x65 0xC002 2
    [.read 0xC000 0xC9, .read 0xC001 0x3F, .tick 2]) := by decide +kernel

/-- V122: `CMP $12FF,X`. -/
theorem test_V122_cmp :
    seenAfter ({ start [(0x1300, 0x10), (0xC000, 0xDD), (0xC001, 0xFF), (0xC002, 0x12)] with
      a := 0x10, x := 0x01 }) = some (seen 0x10 0x01 0x00 0xFD 0x27 0xC003 5
    [.read 0xC000 0xDD, .read 0xC001 0xFF, .read 0xC002 0x12, .tick 1,
      .read 0x1300 0x10, .tick 4]) := by decide +kernel

/-- V124: `CPX $10`. -/
theorem test_V124_cpx :
    seenAfter (start [(0x0010, 0x01), (0xC000, 0xE4), (0xC001, 0x10)]) = some (seen 0x00 0x00 0x00 0xFD 0xA4 0xC002 3
    [.read 0xC000 0xE4, .read 0xC001 0x10, .read 0x0010 0x01, .tick 3]) := by decide +kernel

/-- V127: `CPY $10`. -/
theorem test_V127_cpy :
    seenAfter ({ start [(0x0010, 0x02), (0xC000, 0xC4), (0xC001, 0x10)] with
      y := 0x01 }) = some (seen 0x00 0x00 0x01 0xFD 0xA4 0xC002 3
    [.read 0xC000 0xC4, .read 0xC001 0x10, .read 0x0010 0x02, .tick 3]) := by decide +kernel

/-- V129: `BCC +$7F`. -/
theorem test_V129_bcc :
    seenAfter ({ start [(0xC0F0, 0x90), (0xC0F1, 0x7F)] with
      pc := 0xC0F0 }) = some (seen 0x00 0x00 0x00 0xFD 0x24 0xC171 4
    [.read 0xC0F0 0x90, .read 0xC0F1 0x7F, .tick 4]) := by decide +kernel

/-- V131: `BCS -3`. -/
theorem test_V131_bcs :
    seenAfter ({ start [(0xC000, 0xB0), (0xC001, 0xFD)] with
      p := Flags.unpack 0x25 }) = some (seen 0x00 0x00 0x00 0xFD 0x25 0xBFFF 4
    [.read 0xC000 0xB0, .read 0xC001 0xFD, .tick 4]) := by decide +kernel

/-- V133: `BEQ -4`. -/
theorem test_V133_beq :
    seenAfter ({ start [(0xC010, 0xF0), (0xC011, 0xFC)] with
      pc := 0xC010, p := Flags.unpack 0x26 }) = some (seen 0x00 0x00 0x00 0xFD 0x26 0xC00E 3
    [.read 0xC010 0xF0, .read 0xC011 0xFC, .tick 3]) := by decide +kernel

/-- V135: `BNE +$03`. -/
theorem test_V135_bne :
    seenAfter (start [(0xC000, 0xD0), (0xC001, 0x03)]) = some (seen 0x00 0x00 0x00 0xFD 0x24 0xC005 3
    [.read 0xC000 0xD0, .read 0xC001 0x03, .tick 3]) := by decide +kernel

/-- V137: `BMI -2`. -/
theorem test_V137_bmi :
    seenAfter ({ start [(0xC000, 0x30), (0xC001, 0xFE)] with
      p := Flags.unpack 0xA4 }) = some (seen 0x00 0x00 0x00 0xFD 0xA4 0xC000 3
    [.read 0xC000 0x30, .read 0xC001 0xFE, .tick 3]) := by decide +kernel

/-- V139: `BPL +$10`. -/
theorem test_V139_bpl :
    seenAfter (start [(0xC000, 0x10), (0xC001, 0x10)]) = some (seen 0x00 0x00 0x00 0xFD 0x24 0xC012 3
    [.read 0xC000 0x10, .read 0xC001 0x10, .tick 3]) := by decide +kernel

/-- V141: `BVC +$02`. -/
theorem test_V141_bvc :
    seenAfter ({ start [(0xC000, 0x50), (0xC001, 0x02)] with
      p := Flags.unpack 0x64 }) = some (seen 0x00 0x00 0x00 0xFD 0x64 0xC002 2
    [.read 0xC000 0x50, .read 0xC001 0x02, .tick 2]) := by decide +kernel

/-- V143: `BVS +$02`. -/
theorem test_V143_bvs :
    seenAfter ({ start [(0xC000, 0x70), (0xC001, 0x02)] with
      p := Flags.unpack 0x64 }) = some (seen 0x00 0x00 0x00 0xFD 0x64 0xC004 3
    [.read 0xC000 0x70, .read 0xC001 0x02, .tick 3]) := by decide +kernel

/-- V145: `BNE -1`. -/
theorem test_V145_bne :
    seenAfter ({ start [(0xC0FE, 0xD0), (0xC0FF, 0xFF)] with
      pc := 0xC0FE }) = some (seen 0x00 0x00 0x00 0xFD 0x24 0xC0FF 4
    [.read 0xC0FE 0xD0, .read 0xC0FF 0xFF, .tick 4]) := by decide +kernel

/-- V148: `BNE -128`. -/
theorem test_V148_bne :
    seenAfter ({ start [(0xC07E, 0xD0), (0xC07F, 0x80)] with
      pc := 0xC07E }) = some (seen 0x00 0x00 0x00 0xFD 0x24 0xC000 3
    [.read 0xC07E 0xD0, .read 0xC07F 0x80, .tick 3]) := by decide +kernel

/-- V153: `JMP $C000`. -/
theorem test_V153_jmp :
    seenAfter (start [(0xC000, 0x4C), (0xC002, 0xC0)]) = some (seen 0x00 0x00 0x00 0xFD 0x24 0xC000 3
    [.read 0xC000 0x4C, .read 0xC001 0x00, .read 0xC002 0xC0, .tick 3]) := by decide +kernel

/-- V155: `JSR $1234`. -/
theorem test_V155_jsr :
    seenAfter ({ start [(0xC0FE, 0x20), (0xC0FF, 0x34), (0xC100, 0x12)] with
      sp := 0x00, pc := 0xC0FE }) = some (seen 0x00 0x00 0x00 0xFE 0x24 0x1234 6
    [.read 0xC0FE 0x20, .read 0xC0FF 0x34, .read 0xC100 0x12, .write 0x0100 0xC1,
      .write 0x01FF 0x00, .tick 6]) := by decide +kernel

/-- V158: `RTS`. -/
theorem test_V158_rts :
    seenAfter ({ start [(0x01FC, 0xFF), (0x01FD, 0xFF), (0xC000, 0x60)] with
      sp := 0xFB }) = some (seen 0x00 0x00 0x00 0xFD 0x24 0x0000 6
    [.read 0xC000 0x60, .read 0x01FC 0xFF, .read 0x01FD 0xFF, .tick 6]) := by decide +kernel

/-- V160: `PHA`. -/
theorem test_V160_pha :
    seenAfter ({ start [(0xC000, 0x48)] with
      sp := 0x00, p := Flags.unpack 0xA4 }) = some (seen 0x00 0x00 0x00 0xFF 0xA4 0xC001 3
    [.read 0xC000 0x48, .write 0x0100 0x00, .tick 3]) := by decide +kernel

/-- V161: `PHP`. -/
theorem test_V161_php :
    seenAfter (start [(0xC000, 0x08)]) = some (seen 0x00 0x00 0x00 0xFC 0x24 0xC001 3
    [.read 0xC000 0x08, .write 0x01FD 0x34, .tick 3]) := by decide +kernel

/-- V164: `PLA`. -/
theorem test_V164_pla :
    seenAfter ({ start [(0x0100, 0x80), (0xC000, 0x68)] with
      sp := 0xFF }) = some (seen 0x80 0x00 0x00 0x00 0xA4 0xC001 4
    [.read 0xC000 0x68, .read 0x0100 0x80, .tick 4]) := by decide +kernel

/-- V166: `PLP`. -/
theorem test_V166_plp :
    seenAfter ({ start [(0xC000, 0x28)] with
      sp := 0xFC, p := Flags.unpack 0xEF }) = some (seen 0x00 0x00 0x00 0xFD 0x20 0xC001 4
    [.read 0xC000 0x28, .read 0x01FD 0x00, .tick 4]) := by decide +kernel

/-- V168: `CLC`. -/
theorem test_V168_clc :
    seenAfter ({ start [(0xC000, 0x18)] with
      p := Flags.unpack 0xEF }) = some (seen 0x00 0x00 0x00 0xFD 0xEE 0xC001 2
    [.read 0xC000 0x18, .tick 2]) := by decide +kernel

/-- V170: `SEC`. -/
theorem test_V170_sec :
    seenAfter (start [(0xC000, 0x38)]) = some (seen 0x00 0x00 0x00 0xFD 0x25 0xC001 2
    [.read 0xC000 0x38, .tick 2]) := by decide +kernel

/-- V171: `CLI`. -/
theorem test_V171_cli :
    seenAfter (start [(0xC000, 0x58)]) = some (seen 0x00 0x00 0x00 0xFD 0x20 0xC001 2
    [.read 0xC000 0x58, .tick 2]) := by decide +kernel

/-- V172: `SEI`. -/
theorem test_V172_sei :
    seenAfter ({ start [(0xC000, 0x78)] with
      p := Flags.unpack 0x20 }) = some (seen 0x00 0x00 0x00 0xFD 0x24 0xC001 2
    [.read 0xC000 0x78, .tick 2]) := by decide +kernel

/-- V173: `CLD`. -/
theorem test_V173_cld :
    seenAfter ({ start [(0xC000, 0xD8)] with
      p := Flags.unpack 0x2C }) = some (seen 0x00 0x00 0x00 0xFD 0x24 0xC001 2
    [.read 0xC000 0xD8, .tick 2]) := by decide +kernel

/-- V174: `SED`. -/
theorem test_V174_sed :
    seenAfter (start [(0xC000, 0xF8)]) = some (seen 0x00 0x00 0x00 0xFD 0x2C 0xC001 2
    [.read 0xC000 0xF8, .tick 2]) := by decide +kernel

/-- V175: `CLV`. -/
theorem test_V175_clv :
    seenAfter ({ start [(0xC000, 0xB8)] with
      p := Flags.unpack 0xE4 }) = some (seen 0x00 0x00 0x00 0xFD 0xA4 0xC001 2
    [.read 0xC000 0xB8, .tick 2]) := by decide +kernel

/-- V177: `BRK`. -/
theorem test_V177_brk :
    seenAfter (start [(0xFFFF, 0x90)]) = some (seen 0x00 0x00 0x00 0xFA 0x24 0x9000 7
    [.read 0xC000 0x00, .write 0x01FD 0xC0, .write 0x01FC 0x02, .write 0x01FB 0x34,
      .read 0xFFFE 0x00, .read 0xFFFF 0x90, .tick 7]) := by decide +kernel

/-- V180: `RTI`. -/
theorem test_V180_rti :
    seenAfter ({ start [(0x01FD, 0x80), (0xC000, 0x40)] with
      sp := 0xFA, p := Flags.unpack 0xE7 }) = some (seen 0x00 0x00 0x00 0xFD 0x20 0x8000 6
    [.read 0xC000 0x40, .read 0x01FB 0x00, .read 0x01FC 0x00, .read 0x01FD 0x80,
      .tick 6]) := by decide +kernel

/-- V182: `NOP`. -/
theorem test_V182_nop :
    seenAfter ({ start [(0xC000, 0xEA)] with
      a := 0x11, x := 0x22, y := 0x33, p := Flags.unpack 0xE7 }) = some (seen 0x11 0x22 0x33 0xFD 0xE7 0xC001 2
    [.read 0xC000 0xEA, .tick 2]) := by decide +kernel

/-- V183: `*NOP`. -/
theorem test_V183_unop :
    seenAfter ({ start [(0xC000, 0x1A)] with
      a := 0x11, p := Flags.unpack 0xE5 }) = some (seen 0x11 0x00 0x00 0xFD 0xE5 0xC001 2
    [.read 0xC000 0x1A, .tick 2]) := by decide +kernel

/-- V184: `*NOP #$FF`. -/
theorem test_V184_unop :
    seenAfter (start [(0xC000, 0x80), (0xC001, 0xFF)]) = some (seen 0x00 0x00 0x00 0xFD 0x24 0xC002 2
    [.read 0xC000 0x80, .read 0xC001 0xFF, .tick 2]) := by decide +kernel

/-- V188: `*NOP $12FF,X`. -/
theorem test_V188_unop :
    seenAfter ({ start [(0xC000, 0x1C), (0xC001, 0xFF), (0xC002, 0x12)] with
      x := 0x01 }) = some (seen 0x00 0x01 0x00 0xFD 0x24 0xC003 5
    [.read 0xC000 0x1C, .read 0xC001 0xFF, .read 0xC002 0x12, .tick 1,
      .read 0x1300 0x00, .tick 4]) := by decide +kernel

/-- V189: `*NOP $1200,X`. -/
theorem test_V189_unop :
    seenAfter ({ start [(0xC000, 0xFC), (0xC002, 0x12)] with
      x := 0x01 }) = some (seen 0x00 0x01 0x00 0xFD 0x24 0xC003 4
    [.read 0xC000 0xFC, .read 0xC001 0x00, .read 0xC002 0x12, .read 0x1201 0x00,
      .tick 4]) := by decide +kernel

/-- V192: `*LAX ($20),Y`. -/
theorem test_V192_ulax :
    seenAfter ({ start [(0x0020, 0xF8), (0x0021, 0x02), (0x0308, 0x7F), (0xC000, 0xB3),
      (0xC001, 0x20)] with
      y := 0x10 }) = some (seen 0x7F 0x7F 0x10 0xFD 0x24 0xC002 6
    [.read 0xC000 0xB3, .read 0xC001 0x20, .read 0x0020 0xF8, .read 0x0021 0x02,
      .tick 1, .read 0x0308 0x7F, .tick 5]) := by decide +kernel

/-- V196: `*SAX $10,Y`. -/
theorem test_V196_usax :
    seenAfter ({ start [(0xC000, 0x97), (0xC001, 0x10)] with
      a := 0xFF, y := 0x01 }) = some (seen 0xFF 0x00 0x01 0xFD 0x24 0xC002 4
    [.read 0xC000 0x97, .read 0xC001 0x10, .write 0x0011 0x00, .tick 4]) := by decide +kernel

/-- V200: `*SBC #$B0`. -/
theorem test_V200_usbc :
    seenAfter ({ start [(0xC000, 0xEB), (0xC001, 0xB0)] with
      a := 0x50, p := Flags.unpack 0x25 }) = some (seen 0xA0 0x00 0x00 0xFD 0xE4 0xC002 2
    [.read 0xC000 0xEB, .read 0xC001 0xB0, .tick 2]) := by decide +kernel

/-- V203: `*DCP $12FF,Y`. -/
theorem test_V203_udcp :
    seenAfter ({ start [(0x1300, 0x01), (0xC000, 0xDB), (0xC001, 0xFF), (0xC002, 0x12)] with
      a := 0x80, y := 0x01 }) = some (seen 0x80 0x00 0x01 0xFD 0xA5 0xC003 7
    [.read 0xC000 0xDB, .read 0xC001 0xFF, .read 0xC002 0x12, .read 0x1300 0x01,
      .write 0x1300 0x00, .tick 7]) := by decide +kernel

/-- V206: `*ISB $10`. -/
theorem test_V206_uisb :
    seenAfter ({ start [(0x0010, 0xFF), (0xC000, 0xE7), (0xC001, 0x10)] with
      p := Flags.unpack 0x25 }) = some (seen 0x00 0x00 0x00 0xFD 0x27 0xC002 5
    [.read 0xC000 0xE7, .read 0xC001 0x10, .read 0x0010 0xFF, .write 0x0010 0x00,
      .tick 5]) := by decide +kernel

/-- V208: `*SLO $10`. -/
theorem test_V208_uslo :
    seenAfter ({ start [(0x0010, 0x81), (0xC000, 0x07), (0xC001, 0x10)] with
      a := 0x01 }) = some (seen 0x03 0x00 0x00 0xFD 0x25 0xC002 5
    [.read 0xC000 0x07, .read 0xC001 0x10, .read 0x0010 0x81, .write 0x0010 0x02,
      .tick 5]) := by decide +kernel

/-- V210: `*RLA $10`. -/
theorem test_V210_urla :
    seenAfter ({ start [(0x0010, 0x40), (0xC000, 0x27), (0xC001, 0x10)] with
      a := 0xFF, p := Flags.unpack 0x25 }) = some (seen 0x81 0x00 0x00 0xFD 0xA4 0xC002 5
    [.read 0xC000 0x27, .read 0xC001 0x10, .read 0x0010 0x40, .write 0x0010 0x81,
      .tick 5]) := by decide +kernel

/-- V212: `*SRE $10`. -/
theorem test_V212_usre :
    seenAfter ({ start [(0x0010, 0x03), (0xC000, 0x47), (0xC001, 0x10)] with
      a := 0xFF }) = some (seen 0xFE 0x00 0x00 0xFD 0xA5 0xC002 5
    [.read 0xC000 0x47, .read 0xC001 0x10, .read 0x0010 0x03, .write 0x0010 0x01,
      .tick 5]) := by decide +kernel

/-- V215: `*RRA $10`. -/
theorem test_V215_urra :
    seenAfter ({ start [(0xC000, 0x67), (0xC001, 0x10)] with
      a := 0x7F, p := Flags.unpack 0x25 }) = some (seen 0xFF 0x00 0x00 0xFD 0xA4 0xC002 5
    [.read 0xC000 0x67, .read 0xC001 0x10, .read 0x0010 0x00, .write 0x0010 0x80,
      .tick 5]) := by decide +kernel

/-- V217: absent byte 0x02. -/
theorem test_V217_unknown_opcode : faultOf (step ({ start [(0xC000, 0x02)] with
      a := 0x12, p := Flags.unpack 0xE5 })) =
    some (0xC000, 0x02, seen 0x12 0x00 0x00 0xFD 0xE5 0xC000 0 [.read 0xC000 0x02]) := by decide +kernel

/-- V221: NMI entry; the byte at PC is not fetched. -/
theorem test_V221_interrupt :
    seenAfter ({ start [(0xC123, 0xE8), (0xFFFB, 0x80)] with
      pc := 0xC123, p := Flags.unpack 0x61, nmiPending := true }) = some (seen 0x00 0x00 0x00 0xFA 0x65 0x8000 7
    [.write 0x01FD 0xC1, .write 0x01FC 0x23, .write 0x01FB 0x61, .read 0xFFFA 0x00,
      .read 0xFFFB 0x80, .tick 7]) := by decide +kernel

/-- V222: IRQ entry, P.I = 0. -/
theorem test_V222_interrupt :
    seenAfter ({ start [(0xC123, 0xE8), (0xFFFF, 0x90)] with
      pc := 0xC123, p := Flags.unpack 0x21, irqLine := true }) = some (seen 0x00 0x00 0x00 0xFA 0x25 0x9000 7
    [.write 0x01FD 0xC1, .write 0x01FC 0x23, .write 0x01FB 0x21, .read 0xFFFE 0x00,
      .read 0xFFFF 0x90, .tick 7]) := by decide +kernel

/-- V224: NMI and IRQ together: NMI entry first. -/
theorem test_V224_interrupt :
    seenAfter ({ start [(0xC123, 0xE8), (0xFFFB, 0x80), (0xFFFF, 0x90)] with
      pc := 0xC123, p := Flags.unpack 0x20, nmiPending := true, irqLine := true }) = some (seen 0x00 0x00 0x00 0xFA 0x24 0x8000 7
    [.write 0x01FD 0xC1, .write 0x01FC 0x23, .write 0x01FB 0x20, .read 0xFFFA 0x00,
      .read 0xFFFB 0x80, .tick 7]) := by decide +kernel

/-- V226: NMI entry, stack pointer wraps. -/
theorem test_V226_interrupt :
    seenAfter ({ start [(0x00FF, 0xE8), (0xFFFB, 0x80)] with
      sp := 0x01, pc := 0x00FF, p := Flags.unpack 0x20, nmiPending := true }) = some (seen 0x00 0x00 0x00 0xFE 0x24 0x8000 7
    [.write 0x0101 0x00, .write 0x0100 0xFF, .write 0x01FF 0x20, .read 0xFFFA 0x00,
      .read 0xFFFB 0x80, .tick 7]) := by decide +kernel

/-- V227: NMI entry when the byte at PC is absent: no fetch, no fault. -/
theorem test_V227_interrupt :
    seenAfter ({ start [(0xC000, 0x02), (0xFFFB, 0x80)] with
      nmiPending := true }) = some (seen 0x00 0x00 0x00 0xFA 0x24 0x8000 7
    [.write 0x01FD 0xC0, .write 0x01FC 0x00, .write 0x01FB 0x24, .read 0xFFFA 0x00,
      .read 0xFFFB 0x80, .tick 7]) := by decide +kernel

/-! ### Power-on, the run budget, the environment -/

/-- V229: `ResetPC = none`, the RESET vector holds 0x1234. -/
theorem test_V229_power_on : seenOf (powerOn none (start [(0xFFFC, 0x34), (0xFFFD, 0x12)])) =
    seen 0x00 0x00 0x00 0xFD 0x24 0x1234 7 [.read 0xFFFC 0x34, .read 0xFFFD 0x12, .tick 7] := by
  decide +kernel

/-- V230: `ResetPC = 0xC000`. -/
theorem test_V230_power_on_override : seenOf (powerOn (some 0xC000) (start [])) =
    seen 0x00 0x00 0x00 0xFD 0x24 0xC000 7 [.tick 7] := by decide +kernel

/-- The memory of the budget vectors: `INX` from 0xC000 on. -/
def budgetStart : State := { start [(0xC000, 0xE8), (0xC001, 0xE8), (0xC002, 0xE8)] with cyc := 7 }

/-- V233: a budget of 7 ends the run before the first step. -/
theorem test_V233_budget_at_start :
    (stateOf (runLoop (some 7) 5 budgetStart)).map (fun t => (t.pc, t.cyc)) = some (0xC000, 7) := by
  decide +kernel

/-- V235: a budget of 10 is reached after two steps. -/
theorem test_V235_budget_after_two_steps :
    (stateOf (runLoop (some 10) 5 budgetStart)).map (fun t => (t.pc, t.cyc)) =
      some (0xC002, 11) := by decide +kernel

/-- V239 and V240: `PackP` with Break 0 and 1. -/
theorem test_V240_pack : Flags.pack false ⟨false, false, false, false, false, false⟩ = 0x20 ∧
    Flags.pack true ⟨true, true, true, true, true, true⟩ = 0xFF := by decide

/-- V244 and V245: `PackP(0)` after `UnpackP`. -/
theorem test_V244_unpack : (Flags.unpack 0xFF).pack false = 0xEF ∧
    (Flags.unpack 0x10).pack false = 0x20 := by decide

/-- An answer of the environment is what the read sees (20_memory.md R31): the operand byte. -/
theorem test_environment_answers :
    ((stateOf (step { start [(0xC000, 0xA9)] with answers := [none, some 0x80] })).map
      (fun t => (t.a, t.answers, t.peek 0xC001))) = some (0x80, [], 0x00) := by decide +kernel

/-- The environment's moves land at the boundary, in order: an IRQ level is seen by this step, and
a poke is what the handler's vector holds. -/
theorem test_environment_moves :
    let s := { start [] with
      p := Flags.unpack 0x20, schedule := [[.irqLevel true, .poke 0xFFFF 0x90]] }
    (stateOf (step s)).map (fun t => (t.pc, t.sp, t.p.i)) = some (0x9000, 0xFA, true) ∧
    (stateOf (step s)).map (fun t => (t.irqLine, t.schedule)) = some (true, []) := by
  decide +kernel

/-- A Halted core has no step (10_state.md R24). -/
theorem test_halted_core_faults :
    (match step { start [] with run := .halted 0xC000 0x02 } with
      | .fault f => some f
      | _ => none) = some (.halted 0xC000 0x02) := by decide +kernel

/-- The word placed by `withFetchWord` is the one the very next step runs, from reset and with an
NMI and an unmasked IRQ at hand. -/
theorem test_withFetchWord :
    (seenAfter (State.reset.withFetchWord 16 0x80A9)).map (fun t => (t.a, t.pc, t.cyc)) =
      some (0x80, 0x0002, 9) ∧
    (seenAfter ({ start [] with
      nmiPending := true, irqLine := true, p := Flags.unpack 0, answers := [some 0x02, none, some 0x77]
        }.withFetchWord 16 0x10A5)).map (fun t => (t.a, t.pc)) = some (0x77, 0xC002) := by
  decide +kernel

theorem test_memory_write_of_the_unlisted_byte_removes_the_entry :
    Memory.write (Memory.write [] 5 0x01) 5 0x00 = [] ∧
    Memory.write (Memory.write [] 9 0x01) 5 0x02 = [(5, 0x02), (9, 0x01)] := by decide


/-! ### Witnesses: for every statement with hypotheses, a state and operands that meet them all

The operands are boundary values: a page end, the ends of a byte, the wraps of the stack pointer
and the zero page. -/

/-- A state with `LDA #$80` at `PC`, data at the ends of the zero page, and a canonical memory. -/
def wit : State := { start [(0x0000, 0x12), (0x00FF, 0x34), (0x0100, 0xAA), (0x3000, 0x40),
    (0x30FF, 0x80), (0xC000, 0xA9), (0xC001, 0x80)] with
  a := 0x7F, x := 0x01, y := 0xFF, sp := 0x00, p := Flags.unpack 0xC3 }

/-- `wit` with another byte at `PC`. -/
def witByte (b : Byte) : State := { wit with mem := [(0xC000, b)] }

theorem witness_memory_is_canonical : Memory.wf wit.mem = true ∧ wit.answers = [] := by
  decide +kernel

/-- The one hypothesis of three statements about the stack. -/
theorem witness_JsrPushesItsLastByte_PushesWriteTheStack_BrkEntersTheIrqVector :
    Memory.wf wit.mem = true := by decide +kernel

theorem witness_DecodeInvertsEncode :
    decode [0xFF, 0xFF, 0xFF, 0xEA] = .ok (.uIsbAbxW 0xFFFF) [0xEA] ∧
    [0xFF, 0xFF, 0xFF, 0xEA] = encode (.uIsbAbxW 0xFFFF) ++ [0xEA] := by decide +kernel

theorem witness_RejectedBytesAreTheAbsent25 :
    decode [0x02] = .unknownOpcode 0x02 ∧ (0x02 : Byte) ∈ absentBytes ∧
    decode [0xF2] = .unknownOpcode 0xF2 ∧ (0xF2 : Byte) ∈ absentBytes := by decide +kernel

theorem witness_RegistryHasNoDefects :
    (lookup 0x00).map (fun e => (e.opcode, e.op)) = some (0x00, .brk) ∧
    (lookup 0xFF).map (fun e => (e.opcode, e.op)) = some (0xFF, .uIsb) := by decide +kernel

theorem witness_StepRunsTheDecodedInstruction :
    (let o := openBoundary wit
     wit.AtInstruction ∧ decode [o.answerAt 0 wit.pc, o.answerAt 1 (wit.pc + 1),
      o.answerAt 2 (wit.pc + 2)] = .ok (.ldaImm 0x80) [0x00]) ∧
    (let s := { witByte 0xEA with
       p := Flags.unpack 0x04, schedule := [[.irqLevel true, .poke 0xC000 0x10, .poke 0xC001 0x80]] }
     let o := openBoundary s
     s.AtInstruction ∧ decode [o.answerAt 0 s.pc, o.answerAt 1 (s.pc + 1),
      o.answerAt 2 (s.pc + 2)] = .ok (.bplRel 0x80) [0x00]) ∧
    (let s := { witByte 0xAD with pc := 0xFFFE, answers := [some 0x6C, some 0xFF, some 0x30] }
     let o := openBoundary s
     s.AtInstruction ∧ decode [o.answerAt 0 s.pc, o.answerAt 1 (s.pc + 1),
      o.answerAt 2 (s.pc + 2)] = .ok (.jmpInd 0x30FF) []) := by
  unfold State.AtInstruction
  decide +kernel

theorem witness_StepFaultsOnAbsentOpcode :
    (let s := witByte 0x02
     s.AtInstruction ∧ (openBoundary s).answerAt 0 s.pc ∈ absentBytes) ∧
    (let s := { wit with schedule := [[.irqLevel false, .poke 0xC000 0xF2]] }
     s.AtInstruction ∧ (openBoundary s).answerAt 0 s.pc ∈ absentBytes) := by
  unfold State.AtInstruction
  decide +kernel

/-- Each fault, and the two ways an Idle core goes on: an interrupt due over an absent byte, and a
byte that is not absent. -/
theorem witness_StepStopsOnlyOnAbsentOpcode :
    step { wit with run := .halted 0xC000 0x02 } = .fault (.halted 0xC000 0x02) ∧
    (∃ t, step (witByte 0x02) = .fault (.unknownOpcode 0xC000 0x02 t)) ∧
    ((witByte 0x02).run = .idle ∧
      interruptDue (openBoundary { witByte 0x02 with schedule := [[.nmiEdge]] }) = true) ∧
    (wit.run = .idle ∧ (openBoundary wit).answerAt 0 wit.pc ∉ absentBytes) :=
  ⟨rfl, ⟨_, rfl⟩, ⟨rfl, rfl⟩, rfl, by decide +kernel⟩

theorem witness_NmiEntryStep :
    (let s := { wit with nmiPending := true }
     s.run = .idle ∧ (openBoundary s).nmiPending = true) ∧
    (let s := { wit with schedule := [[.poke 0xFFFB 0x90, .nmiEdge, .irqLevel true]] }
     s.run = .idle ∧ (openBoundary s).nmiPending = true) := by decide +kernel

theorem witness_IrqEntryStep :
    (let s := { wit with irqLine := true }
     let o := openBoundary s
     s.run = .idle ∧ o.nmiPending = false ∧ o.irqLine = true ∧ s.p.i = false) ∧
    (let s := { wit with schedule := [[.irqLevel false, .irqLevel true], [.irqLevel false]] }
     let o := openBoundary s
     s.run = .idle ∧ o.nmiPending = false ∧ o.irqLine = true ∧ s.p.i = false) := by decide +kernel

theorem witness_NmiEdgesGiveOneEntry :
    let s := { wit with schedule := [[.nmiEdge, .irqLevel true, .nmiEdge], []] }
    s.run = .idle ∧ s.schedule = [.nmiEdge, .irqLevel true, .nmiEdge] :: [[]] ∧
      EnvMove.nmiEdge ∈ [EnvMove.nmiEdge, .irqLevel true, .nmiEdge] := by decide +kernel

theorem witness_ProgramCounterAdvances :
    ((Instr.bneRel 0x80).op ∉ [Op.jmp, .jsr, .rts, .rti, .brk] ∧
      branchTaken (.bneRel 0x80) wit.p = false) ∧
    ((Instr.staAbxW 0xFFFF).op ∉ [Op.jmp, .jsr, .rts, .rti, .brk] ∧
      branchTaken (.staAbxW 0xFFFF) wit.p = false) := by decide +kernel

theorem witness_RegistersWrittenOnlyByListed :
    (∃ t, exec (.ldaImm 0x80) wit = .next t ∧ t.a ≠ wit.a) ∧
    (∃ t, exec .aslAcc wit = .next t ∧ t.a ≠ wit.a) ∧
    (∃ t, exec .inx wit = .next t ∧ t.x ≠ wit.x) ∧
    (∃ t, exec .iny wit = .next t ∧ t.y ≠ wit.y) ∧
    (∃ t, exec .pha wit = .next t ∧ t.sp ≠ wit.sp) :=
  ⟨⟨_, rfl, by decide +kernel⟩, ⟨_, rfl, by decide +kernel⟩, ⟨_, rfl, by decide +kernel⟩,
    ⟨_, rfl, by decide +kernel⟩, ⟨_, rfl, by decide +kernel⟩⟩

theorem witness_FlagsWrittenOnlyByListed :
    (∃ t, exec .clc wit = .next t ∧ t.p.c ≠ wit.p.c) ∧
    (∃ t, exec .sed wit = .next t ∧ t.p.d ≠ wit.p.d) ∧
    (∃ t, exec .brk wit = .next t ∧ t.p.i ≠ wit.p.i) ∧
    (∃ t, exec .clv wit = .next t ∧ t.p.v ≠ wit.p.v) ∧
    (∃ t, exec .inx wit = .next t ∧ (t.p.z ≠ wit.p.z ∨ t.p.n ≠ wit.p.n)) :=
  ⟨⟨_, rfl, by decide +kernel⟩, ⟨_, rfl, by decide +kernel⟩, ⟨_, rfl, by decide +kernel⟩,
    ⟨_, rfl, by decide +kernel⟩, ⟨_, rfl, by decide +kernel⟩⟩

theorem witness_StoresGoOnlyToTheStoredAddresses :
    storedAddrs (.staAbxW 0xFFFF) wit = [0x0000] ∧ storedAddrs .brk wit = [0x0100, 0x01FF, 0x01FE] ∧
    storedAddrs .pha wit = [0x0100] ∧ storedAddrs (.jsrAbs 0) wit = [0x0100, 0x01FF] ∧
    storedAddrs .aslAcc wit = [] ∧ storedAddrs (.aslZpx 0xFF) wit = [0x0000] := by decide +kernel

theorem witness_DecimalFlagIsInert :
    (Instr.adcImm 0x09).op ∉ [Op.php, .brk, .plp, .rti, .sed, .cld] ∧
      ∃ t, exec (.adcImm 0x09) wit = .next t :=
  ⟨by decide, _, rfl⟩

theorem witness_CycleCounterIsInert : ∃ t, step wit = .next t := ⟨_, rfl⟩

theorem witness_IndirectPointerWrapsInItsPage :
    (0x30FE : Addr).toNat % 256 ≠ 255 ∧ (0x30FF : Addr).toNat % 256 = 255 ∧
    (read16Wrap 0x30FF wit).1 = 0x4080 := by decide +kernel

theorem witness_AccessClassesDriveTheBus :
    ((Instr.ldaAbx 0x12FF).form = .mem (.absoluteX 0x12FF) ∧ (Instr.ldaAbx 0x12FF).op ≠ .jmp ∧
      (Instr.ldaAbx 0x12FF).op ≠ .jsr ∧ (Instr.ldaAbx 0x12FF).op ∉ [Op.sta, .stx, .sty, .uSax] ∧
      paysExtra (.ldaAbx 0x12FF) wit = true) ∧
    ((Instr.ldaIzy 0xFF).form = .mem (.indirectIndexed 0xFF) ∧ (Instr.ldaIzy 0xFF).op ≠ .jmp ∧
      (Instr.ldaIzy 0xFF).op ≠ .jsr) ∧
    ((Instr.staAbxW 0x12FF).form = .mem (.absoluteXWrite 0x12FF) ∧
      (Instr.staAbxW 0x12FF).op ≠ .jmp ∧ (Instr.staAbxW 0x12FF).op ≠ .jsr ∧
      paysExtra (.staAbxW 0x12FF) wit = false) ∧
    ((Instr.incZpx 0xFF).form = .mem (.zeroPageX 0xFF) ∧ (Instr.incZpx 0xFF).op ≠ .jmp ∧
      (Instr.incZpx 0xFF).op ≠ .jsr ∧ (Instr.incZpx 0xFF).op ∈ storingOps) ∧
    ((Instr.aslAbs 0xFFFF).form = .mem (.absolute 0xFFFF) ∧ (Instr.aslAbs 0xFFFF).op ≠ .jmp ∧
      (Instr.aslAbs 0xFFFF).op ≠ .jsr ∧ (Instr.aslAbs 0xFFFF).op ∈ shiftOps) ∧
    Memory.wf wit.mem = true := by decide +kernel

theorem witness_LogicalOpsCombineIntoA :
    (Instr.andImm 0x80).op ∈ [Op.and, .ora, .eor] ∧ (Instr.oraIzy 0xFF).op ∈ [Op.and, .ora, .eor] ∧
    (Instr.eorAby 0xFF01).op ∈ [Op.and, .ora, .eor] ∧
    (Instr.andImm 0x80).form = .immediate 0x80 := by decide

theorem witness_BitTestsWithoutChangingA :
    (Instr.bitZp 0xFF).op = .bit ∧ (Instr.bitAbs 0xFFFF).op = .bit := by decide

theorem witness_AdcAddsWithCarry : (Instr.adcImm 0x80).op = .adc ∧ (Instr.adcIzx 0xFE).op = .adc ∧
    (Instr.adcImm 0x80).form = .immediate 0x80 := by decide

theorem witness_SbcSubtractsWithBorrow :
    (Instr.sbcImm 0x80).op = .sbc ∧ (Instr.uSbcImm 0x80).op = .uSbc ∧
    (Instr.uSbcImm 0x80).form = .immediate 0x80 := by decide

theorem witness_IncDecChangeOneByte : Memory.wf wit.mem = true ∧ (Instr.incZp 0xFF).op = .inc ∧
    (Instr.decAbxW 0xFFFF).op = .dec := by decide +kernel

theorem witness_ShiftsWorkOnA :
    (Instr.aslAcc.op ∈ shiftOps ∧ Instr.aslAcc.form = .accumulator) ∧
    (Instr.lsrAcc.op ∈ shiftOps ∧ Instr.lsrAcc.form = .accumulator) ∧
    (Instr.rolAcc.op ∈ shiftOps ∧ Instr.rolAcc.form = .accumulator) ∧
    (Instr.rorAcc.op ∈ shiftOps ∧ Instr.rorAcc.form = .accumulator) := by decide

theorem witness_ShiftsWorkOnMemory : Memory.wf wit.mem = true ∧
    ((Instr.aslZp 0xFF).op ∈ shiftOps ∧ (Instr.aslZp 0xFF).form ≠ .accumulator) ∧
    ((Instr.lsrAbs 0xFFFF).op ∈ shiftOps ∧ (Instr.lsrAbs 0xFFFF).form ≠ .accumulator) ∧
    ((Instr.rolZpx 0xFF).op ∈ shiftOps ∧ (Instr.rolZpx 0xFF).form ≠ .accumulator) ∧
    ((Instr.rorAbxW 0xFFFF).op ∈ shiftOps ∧ (Instr.rorAbxW 0xFFFF).form ≠ .accumulator) := by
  decide +kernel

theorem witness_LoadsSetRegisterAndZeroNegative :
    (Instr.ldaImm 0x00).op ∈ [Op.lda, .ldx, .ldy, .uLax] ∧
    (Instr.ldxZpy 0xFF).op ∈ [Op.lda, .ldx, .ldy, .uLax] ∧
    (Instr.ldyAbx 0xFFFF).op ∈ [Op.lda, .ldx, .ldy, .uLax] ∧
    (Instr.uLaxIzy 0xFF).op ∈ [Op.lda, .ldx, .ldy, .uLax] ∧
    (Instr.ldaImm 0x00).form = .immediate 0x00 := by decide

theorem witness_StoresWriteOneByteAndNoFlag : Memory.wf wit.mem = true ∧
    (Instr.staIzyW 0xFF).op ∈ [Op.sta, .stx, .sty, .uSax] ∧
    (Instr.stxZpy 0xFF).op ∈ [Op.sta, .stx, .sty, .uSax] ∧
    (Instr.styAbs 0xFFFF).op ∈ [Op.sta, .stx, .sty, .uSax] ∧
    (Instr.uSaxIzx 0xFF).op ∈ [Op.sta, .stx, .sty, .uSax] := by decide +kernel

theorem witness_ComparesWriteOnlyFlags :
    (Instr.cmpImm 0x7F).op ∈ [Op.cmp, .cpx, .cpy] ∧ (Instr.cpxAbs 0xFFFF).op ∈ [Op.cmp, .cpx, .cpy] ∧
    (Instr.cpyZp 0xFF).op ∈ [Op.cmp, .cpx, .cpy] ∧
    (Instr.cmpImm 0x7F).form = .immediate 0x7F := by decide

/-- With `P = 0xC3` (N, V, Z, C set) four of the branches are taken and four are not; with `P = 0`
it is the other way round. -/
theorem witness_BranchesTestOneFlag :
    (∀ i ∈ [Instr.bccRel 0x80, .bcsRel 0x80, .beqRel 0x7F, .bneRel 0x7F, .bmiRel 0xFF, .bplRel 0xFF,
      .bvcRel 0x00, .bvsRel 0x00], i.op ∈ branchOps) ∧
    (∀ i ∈ [Instr.bcsRel 0x80, .beqRel 0x7F, .bmiRel 0xFF, .bvsRel 0x00],
      branchTaken i wit.p = true ∧ branchTaken i (Flags.unpack 0) = false) ∧
    (∀ i ∈ [Instr.bccRel 0x80, .bneRel 0x7F, .bplRel 0xFF, .bvcRel 0x00],
      branchTaken i wit.p = false ∧ branchTaken i (Flags.unpack 0) = true) := by decide +kernel

theorem witness_UnusedFlagBitAlwaysSet :
    (∃ t, Instr.php.op = .php ∧ exec .php wit = .next t ∧
      BusEvent.write 0x0100 0xF3 ∈ t.bus.drop wit.bus.length) ∧
    (∃ t, exec .brk wit = .next t ∧ t.bus[wit.bus.length + 2]? = some (.write 0x01FE 0xF3)) ∧
    (interruptEntry 0xFFFA wit).bus[wit.bus.length + 2]? = some (.write 0x01FE 0xE3) ∧
    (∃ t, exec .plp { wit with answers := [some 0xDF] } = .next t) ∧
    (∃ t, exec .rti { wit with answers := [some 0x20, none] } = .next t) :=
  ⟨⟨_, rfl, rfl, by decide +kernel⟩, ⟨_, rfl, by decide +kernel⟩, by decide +kernel, ⟨_, rfl⟩, _,
    rfl⟩

theorem witness_NopsOnlyAdvance : Instr.nop.op = .nop ∧ Instr.uNopImp1A.op = .uNop ∧
    (Instr.uNopImm80 0xFF).op = .uNop ∧ (Instr.uNopAbxFC 0xFFFF).op = .uNop ∧
    Instr.uNopImp1A.form = .implicit ∧ (Instr.uNopImm80 0xFF).form = .immediate 0xFF := by decide

theorem witness_DcpAndIsbCombine : Memory.wf wit.mem = true ∧ (Instr.uDcpZp 0xFF).op = .uDcp ∧
    (Instr.uIsbIzyW 0xFF).op = .uIsb := by decide +kernel

theorem witness_ShiftCombinesIntoA : Memory.wf wit.mem = true ∧
    (Instr.uSloZp 0xFF).op ∈ [Op.uSlo, .uRla, .uSre, .uRra] ∧
    (Instr.uRlaAbs 0xFFFF).op ∈ [Op.uSlo, .uRla, .uSre, .uRra] ∧
    (Instr.uSreZpx 0xFF).op ∈ [Op.uSlo, .uRla, .uSre, .uRra] ∧
    (Instr.uRraIzyW 0xFF).op ∈ [Op.uSlo, .uRla, .uSre, .uRra] := by decide +kernel

theorem witness_RtsReturnsFromJsr : Memory.wf wit.mem = true ∧ wit.answers = [] ∧
    ∃ t, exec (.jsrAbs 0xFFFF) wit = .next t :=
  ⟨by decide +kernel, rfl, _, rfl⟩

theorem witness_RtiResumesTheInterrupted : Memory.wf wit.mem = true ∧ wit.answers = [] ∧
    ∃ t, exec .brk wit = .next t :=
  ⟨by decide +kernel, rfl, _, rfl⟩

theorem witness_PullRestoresWhatPushSaved : Memory.wf wit.mem = true ∧ wit.answers = [] ∧
    (∃ t, exec .pha wit = .next t) ∧ ∃ t, exec .php wit = .next t :=
  ⟨by decide +kernel, rfl, ⟨_, rfl⟩, _, rfl⟩

theorem witness_TicksAdvanceTheCycleCounter :
    ∃ t, step wit = .next t ∧ BusEvent.tick 2 ∈ t.bus.drop wit.bus.length :=
  ⟨_, rfl, by decide +kernel⟩

theorem witness_ReadAfterWriteGivesTheByte : Memory.wf wit.mem = true ∧ wit.answers = [] ∧
    (0xFFFF : Addr) ≠ 0x0000 := by decide +kernel

theorem witness_PowerOnSetsTheResetValues :
    (powerOn none wit).bus = [.read 0xFFFC 0x00, .read 0xFFFD 0x00, .tick 7] ∧
    (powerOn (some 0xFFFF) wit).pc = 0xFFFF := by decide +kernel

theorem witness_invariant : State.Inv wit :=
  ⟨by decide +kernel, rfl, by intro n h; cases h⟩

theorem witness_invariant_absent_byte : State.Inv (witByte 0x02) :=
  ⟨by decide +kernel, rfl, by intro n h; cases h⟩

theorem witness_StepKeepsTheInvariant :
    (State.Inv wit ∧ ∃ t, step wit = .next t) ∧
    (State.Inv (witByte 0x02) ∧ ∃ t, step (witByte 0x02) = .fault (.unknownOpcode 0xC000 0x02 t)) :=
  ⟨⟨witness_invariant, _, rfl⟩, witness_invariant_absent_byte, _, rfl⟩

theorem witness_HistoryOnlyGrows : ∃ t, step wit = .next t := ⟨_, rfl⟩

theorem witness_RunBudgetStopsAtABoundary :
    (0 : Nat) ≤ wit.cyc ∧
    (∃ t, wit.cyc < 1 ∧ 1 ≤ wit.cyc + 2 * 1 ∧ runLoop (some 1) 1 wit = .next t) :=
  ⟨by decide +kernel, _, by decide +kernel, by decide +kernel, rfl⟩

end

end Sys2Proof.Tests
end

section
/-! The unused bit of `P` (10_state.md R22): what a push of the status writes, and what a pull of it
leaves. Bit 5 is no storage, so the facts are that `Flags.pack` supplies it and `Flags.unpack` does
not look at it. -/

namespace Sys2Proof.Machine

/-! ### Bit 5 of the flag byte -/

theorem Flags.pack_and_bit5 (brk : Bool) (f : Flags) : f.pack brk &&& 0x20 = 0x20 := by
  obtain ⟨n, v, d, i, z, c⟩ := f
  revert brk n v d i z c
  decide

theorem Flags.unpack_xor_bit5 (b : Byte) : Flags.unpack (b ^^^ 0x20) = Flags.unpack b := by
  simp [Flags.unpack]

/-! ### Pushing the status -/

theorem exec_of_op_php {i : Instr} (h : i.op = .php) (s : State) :
    exec i s = .next (finish 1 i.baseCycles (pushP s)) := by
  rw [exec_eq, h]
  rfl

/-- The one push of PHP, and the tick that ends the step. -/
theorem finish_pushP_bus (len cycles : Nat) (s : State) : (finish len cycles (pushP s)).bus =
    s.bus ++ [.write (stackAddr s.sp) (s.p.pack true), .tick cycles] := by
  simp [pushP]

theorem exec_brk (s : State) :
    exec .brk s = .next (tick 7 (takeException Config.vecIRQ (s.pc + 2) true s)) := rfl

/-- Taking an exception through any vector: the third Bus event is the push of the status. -/
theorem takeException_pushes_status (vector ret : Addr) (brk : Bool) (s : State) :
    (takeException vector ret brk s).bus[s.bus.length + 2]? =
      some (.write (stackAddr (s.sp - 1 - 1)) (s.p.pack brk)) := by
  simp [takeException, push_spec, pushAddr_spec, read16, readPair_spec]

/-- A tick leaves the history it finds. -/
theorem tick_bus_getElem? {s : State} {k : Nat} {e : BusEvent} (n : Nat) (h : s.bus[k]? = some e) :
    (tick n s).bus[k]? = some e := by
  rw [tick_bus, List.getElem?_append_left (List.getElem?_eq_some_iff.mp h).1, h]

/-- The status byte an exception pushes has bit 5 set, for BRK and the interrupt entries alike. -/
theorem takeException_status_bit5 {vector ret a : Addr} {brk : Bool} {n : Nat} {v : Byte}
    {s : State}
    (h : (tick n (takeException vector ret brk s)).bus[s.bus.length + 2]? = some (.write a v)) :
    v &&& 0x20 = 0x20 := by
  rw [tick_bus_getElem? n (takeException_pushes_status vector ret brk s)] at h
  cases h
  exact Flags.pack_and_bit5 brk s.p

/-! ### Pulling the status -/

theorem exec_of_op_plp {i : Instr} (h : i.op = .plp) (s : State) :
    exec i s = .next (finish 1 i.baseCycles (pullP s)) := by
  rw [exec_eq, h]
  rfl

theorem exec_of_op_rti {i : Instr} (h : i.op = .rti) (s : State) :
    exec i s = .next (tick i.baseCycles (returnFromException s)) := by
  rw [exec_eq, h]
  rfl

/-- The registers PLP and RTI leave depend on the byte pulled only through its six flags. -/
theorem exec_pull_status_regs {i : Instr} (h : i.op = .plp ∨ i.op = .rti) (s : State)
    (later : List (Option Byte)) : ∃ r : Regs, ∀ b : Byte, ∃ u,
      exec i { s with answers := some b :: later } = .next u ∧
      u.regs = { r with p := Flags.unpack b } := by
  rcases h with h | h
  · exact ⟨{ s.regs with sp := s.sp + 1, pc := s.pc + 1 }, fun _ => ⟨_, exec_of_op_plp h _, rfl⟩⟩
  · refine ⟨{ s.regs with
      sp := s.sp + 3
      pc := ({ s with answers := later } : State).pointerAt 0
        (stackAddr (s.sp + 2)) (stackAddr (s.sp + 3)) }, fun _ => ⟨_, exec_of_op_rti h _, ?_⟩⟩
    rw [returnFromException_spec]
    rfl

/-- Settles O45: `Flags.pack` sets bit 5 in every byte read or pushed, and `Flags.unpack` gives the
same flags when bit 5 of the byte pulled is inverted. -/
theorem unusedFlagBitAlwaysSet : Obligations.UnusedFlagBitAlwaysSet := by
  refine ⟨fun s => Flags.pack_and_bit5 false s.p, ?php, ?brk, ?entry, ?pull⟩
  case php =>
    intro s t i a v hi hexec hwrite
    rw [exec_of_op_php hi] at hexec
    cases hexec
    rw [finish_pushP_bus, List.drop_left] at hwrite
    obtain ⟨-, rfl⟩ : a = stackAddr s.sp ∧ v = s.p.pack true := by simpa using hwrite
    exact Flags.pack_and_bit5 true s.p
  case brk =>
    intro s t a v hexec hwrite
    rw [exec_brk] at hexec
    cases hexec
    exact takeException_status_bit5 hwrite
  case entry =>
    intro s vec a v hwrite
    exact takeException_status_bit5 hwrite
  case pull =>
    intro s t i b later hi hexec
    obtain ⟨r, hr⟩ := exec_pull_status_regs hi s later
    obtain ⟨t', ht', htregs⟩ := hr b
    obtain ⟨u, hu, huregs⟩ := hr (b ^^^ 0x20)
    obtain rfl : t' = t := by simpa [ht'] using hexec
    exact ⟨u, hu, by rw [huregs, htregs, Flags.unpack_xor_bit5]⟩

end Sys2Proof.Machine
end

section
/-! The indirect-jump pointer (20_memory.md R37): the address its high byte is read from, in the
arithmetic of the whole address, and where `Read16Wrap` is `Read16`. -/

namespace Sys2Proof.Machine

theorem wrapInPage_toNat (p : Addr) :
    (wrapInPage p).toNat = 256 * (p.toNat / 256) + (p.toNat % 256 + 1) % 256 := by
  simp [wrapInPage, addrOfBytes_toNat, highByte_toNat, lowByte_toNat]

/-- The wrap goes back 255 from the last byte of a page, to its first; elsewhere it is the plain
next address. -/
theorem wrapInPage_eq (p : Addr) :
    wrapInPage p = if p.toNat % 256 = 255 then p - 255 else p + 1 := by
  apply BitVec.eq_of_toNat_eq
  rw [wrapInPage_toNat]
  split <;> bv_omega

theorem read16Wrap_eq_read16 {p : Addr} (h : p.toNat % 256 ≠ 255) (s : State) :
    read16Wrap p s = read16 p s := by
  rw [read16Wrap, read16, wrapInPage_eq, if_neg h]

/-- Settles O24: `wrapInPage` is the address R37 names, and `Read16Wrap` is the two Bus reads of a
pair of addresses, which the Indirect mode hands on. -/
theorem indirectPointerWrapsInItsPage : Obligations.IndirectPointerWrapsInItsPage := by
  intro p s hi
  have hhi : wrapInPage p = hi := wrapInPage_eq p
  refine ⟨?read, ?plain, ?mode⟩
  case read => rw [read16Wrap, hhi, readPair_spec]
  case plain => exact fun h => read16Wrap_eq_read16 h s
  case mode => rfl

end Sys2Proof.Machine
end

section
/-! Address resolution (40_step_and_addressing.md R73 to R88): the Bus reads of the resolver are
those of the pointer bytes of R83 to R85, in order, and they are all it does. -/

namespace Sys2Proof.Machine

/-- The resolver's reads, one for each pointer byte, each with the answer that comes in its turn. -/
theorem resolveReads_eq_mapIdx_pointerAddrs (m : MemForm) (s : State) : resolveReads m s =
    (pointerAddrs (.mem m) s).mapIdx (fun k a => BusEvent.read a (s.answerAt k a)) := by
  cases m
  case indirect p => rw [resolveReads, wrapInPage_eq]; rfl
  all_goals rfl

/-- Settles O20: only a memory form reaches the Bus, and there `resolve_state` gives the state
after the resolver's reads, which are those of the pointer bytes. -/
theorem resolutionWritesNothing : Obligations.ResolutionWritesNothing := by
  intro f s
  cases f
  case mem m =>
    have hreads := resolveReads_eq_mapIdx_pointerAddrs m s
    have hlength : (pointerAddrs (.mem m) s).length = (resolveReads m s).length := by
      rw [hreads, List.length_mapIdx]
    rw [hlength, ← hreads]
    exact resolve_state m s
  all_goals simp [resolveForm, pointerAddrs]

end Sys2Proof.Machine
end

section
/-! BIT (41_logical.md R104): what a reading instruction does through a memory form, and the flags
of BIT as facts about the operand's number. -/

namespace Sys2Proof.Machine

/-! ### Reading through a memory form -/

theorem eaOf_of_form_mem {i : Instr} {m : MemForm} (h : i.form = .mem m) (s : State) :
    eaOf i s = (effectiveAddress m s).1 := by
  rw [eaOf, h]

theorem operandOf_of_form_mem {i : Instr} {m : MemForm} (h : i.form = .mem m) (s : State) :
    operandOf i s = (readOperand (.mem m) s).1 := by
  rw [operandOf, h]

/-- A reading instruction on a memory form: its effect, on the operand and the state after the
operand has been read. -/
theorem exec_read_mem {i : Instr} {act : Byte → State → State} {m : MemForm}
    (hact : actionOf i.op = .read act) (hform : i.form = .mem m) (s : State) :
    exec i s = .next (finish (encode i).length i.baseCycles
      (act (operandOf i s) (readOperand (.mem m) s).2)) := by
  rw [exec_eq, hact, encode_length, operandOf_of_form_mem hform, hform]
  rfl

/-- A form with no pointer read and no page-cross penalty: the one Bus event is the operand's
read. -/
theorem readOperand_state_of_direct {i : Instr} {m : MemForm} {s : State}
    (hform : i.form = .mem m) (hreads : resolveReads m s = []) (hticks : penaltyTicks m s = []) :
    (readOperand (.mem m) s).2 = { s with
      answers := s.answers.drop 1
      bus := s.bus ++ [.read (eaOf i s) (operandOf i s)] } := by
  rw [readOperand_mem_state, hreads, hticks, eaOf_of_form_mem hform, operandOf_of_form_mem hform]
  rfl

/-! ### The flags and the forms of BIT -/

/-- Zero, negative and overflow of BIT read off the operand. -/
theorem Flags.afterBit_eq (a m : Byte) (f : Flags) : Flags.afterBit a m f = { f with
    z := decide (m &&& a = 0)
    n := decide (128 ≤ m.toNat)
    v := decide (64 ≤ m.toNat % 128) } := by
  rw [Flags.afterBit, bit7_eq, bit6_eq, BitVec.and_comm]
  rfl

theorem eq_bitZp_or_bitAbs_of_op {i : Instr} (h : i.op = .bit) :
    (∃ z, i = .bitZp z) ∨ (∃ a, i = .bitAbs a) := by
  cases i
  case bitZp z => exact .inl ⟨z, rfl⟩
  case bitAbs a => exact .inr ⟨a, rfl⟩
  all_goals cases h

/-- Neither form of BIT has a pointer or a page-cross penalty. -/
theorem form_of_op_bit {i : Instr} (h : i.op = .bit) (s : State) :
    ∃ m, i.form = .mem m ∧ resolveReads m s = [] ∧ penaltyTicks m s = [] := by
  obtain ⟨z, rfl⟩ | ⟨a, rfl⟩ := eq_bitZp_or_bitAbs_of_op h
  · exact ⟨.zeroPage z, rfl, rfl, rfl⟩
  · exact ⟨.absolute a, rfl, rfl, rfl⟩

/-- BIT reads its operand and tests it; `A` is not written. -/
theorem exec_of_op_bit {i : Instr} (h : i.op = .bit) (s : State) :
    exec i s = .next (finish (encode i).length i.baseCycles (bitTest (operandOf i s) { s with
      answers := s.answers.drop 1
      bus := s.bus ++ [.read (eaOf i s) (operandOf i s)] })) := by
  obtain ⟨m, hform, hreads, hticks⟩ := form_of_op_bit h s
  have hact : actionOf i.op = .read bitTest := by rw [h]; rfl
  rw [exec_read_mem hact hform, readOperand_state_of_direct hform hreads hticks]

/-- Settles O27: the two forms of BIT are direct, so `exec_of_op_bit` gives the whole next state,
and `Flags.afterBit_eq` its three flags. -/
theorem bitTestsWithoutChangingA : Obligations.BitTestsWithoutChangingA := by
  intro i s hop
  refine ⟨?encodings, _, exec_of_op_bit hop s, ?regs, ?bus, rfl, fun _ => rfl⟩
  case encodings =>
    obtain ⟨z, rfl⟩ | ⟨a, rfl⟩ := eq_bitZp_or_bitAbs_of_op hop
    · exact .inl ⟨rfl, rfl, rfl⟩
    · exact .inr ⟨rfl, rfl, rfl⟩
  case regs => rw [← Flags.afterBit_eq]; rfl
  case bus => rw [finish_bus]; exact List.append_assoc ..

end Sys2Proof.Machine
end

section
/-! The opcode registry and the decoder (30_encoding.md R50 to R60): what a lookup answers, what the
entry it answers says of the instruction, and that decoding and encoding undo each other. -/

namespace Sys2Proof

open Machine

/-! ### The registry -/

/-- The entries of a row are those of one high nibble of the opcode byte. -/
theorem opcode_div_of_mem_row :
    ∀ k < 16, ∀ e ∈ registryRows.getD k [], e.opcode.toNat / 16 = k := by
  decide +kernel

theorem exists_row_of_mem_registry {e : OpcodeEntry} (h : e ∈ registry) :
    ∃ k < 16, e ∈ registryRows.getD k [] := by
  obtain ⟨row, hrow, he⟩ := List.mem_flatten.mp h
  obtain ⟨k, hk, rfl⟩ := List.getElem_of_mem hrow
  exact ⟨k, hk, by rwa [List.getD_eq_getElem _ _ hk]⟩

theorem mem_registry_of_mem_row {k : Nat} {e : OpcodeEntry} (h : e ∈ registryRows.getD k []) :
    e ∈ registry := by
  rw [List.getD_eq_getElem?_getD] at h
  cases hk : registryRows[k]? with
  | none => simp [hk] at h
  | some row =>
    rw [hk] at h
    exact List.mem_flatten.mpr ⟨row, List.mem_of_getElem? hk, h⟩

theorem registryDefects_registry : registryDefects registry = [] := by
  decide +kernel

/-- A registry without defects has one entry a byte (30_encoding.md R50). -/
theorem eq_of_opcode_eq_of_no_defects {r : List OpcodeEntry} (h : registryDefects r = [])
    {e f : OpcodeEntry} (he : e ∈ r) (hf : f ∈ r) (hef : e.opcode = f.opcode) : e = f := by
  induction r with
  | nil => cases he
  | cons g rest ih =>
    simp only [registryDefects, List.append_eq_nil_iff, ite_eq_right_iff, List.any_eq_true,
      beq_iff_eq, reduceCtorEq, imp_false, not_exists, not_and] at h
    obtain ⟨⟨hunique, -⟩, hrest⟩ := h
    rcases List.mem_cons.mp he with rfl | he' <;> rcases List.mem_cons.mp hf with rfl | hf'
    · rfl
    · exact absurd hef.symm (hunique f hf')
    · exact absurd hef (hunique e he')
    · exact ih hrest he' hf'

/-- A lookup answers the entry of the registry for the byte asked, the only one there is. -/
theorem lookup_eq_some_iff {b : Byte} {e : OpcodeEntry} :
    lookup b = some e ↔ e ∈ registry ∧ e.opcode = b := by
  have found : ∀ {f}, lookup b = some f → f ∈ registry ∧ f.opcode = b := fun h =>
    ⟨mem_registry_of_mem_row (List.mem_of_find?_eq_some h), by simpa using List.find?_some h⟩
  refine ⟨found, fun ⟨he, heb⟩ => ?_⟩
  obtain ⟨k, hk, hrow⟩ := exists_row_of_mem_registry he
  obtain rfl : b.toNat / 16 = k := heb ▸ opcode_div_of_mem_row k hk e hrow
  cases hb : lookup b with
  | none => exact absurd heb (by simpa using List.find?_eq_none.mp hb e hrow)
  | some f =>
    obtain ⟨hf, hfb⟩ := found hb
    rw [eq_of_opcode_eq_of_no_defects registryDefects_registry he hf (heb.trans hfb.symm)]

/-- Settles O4: the defects are computed, and `lookup_eq_some_iff` follows from their absence and
from each row holding one high nibble. -/
theorem registryHasNoDefects : Obligations.RegistryHasNoDefects :=
  ⟨rfl, registryDefects_registry, fun _ _ => lookup_eq_some_iff⟩

/-! ### What an entry says of its instruction -/

/-- The entry's columns are those of the instruction, and its template builds the instruction from
its operand bytes. -/
def OpcodeEntry.Describes (e : OpcodeEntry) (i : Instr) : Prop :=
  e.op = i.op ∧ e.mode = i.form.mode ∧ e.len = (encode i).length ∧ e.cycles = i.baseCycles ∧
    ∀ rest, decodeOperands e.make (i.form.bytes ++ rest) = .ok i rest

theorem exists_entry_describes (i : Instr) : ∃ e, lookup i.opcode = some e ∧ e.Describes i := by
  cases i <;> dsimp only [Instr.opcode] <;> refine ⟨_, rfl, rfl, rfl, rfl, rfl, fun rest => ?_⟩
  all_goals exact congrArg (Decoded.ok · rest) (by simp)

theorem baseCycles_eq_specCost (i : Instr) : i.baseCycles = specCost i.op i.form.mode := by
  cases i <;> rfl

/-- The penalty column marks the modes that honour the page-cross penalty, and Relative. -/
theorem penalty_of_mem_registry : ∀ e ∈ registry,
    (e.penalty = .pageCross ↔ paysPageCross e.mode = true) ∧
    (e.penalty = .branch ↔ e.mode = .relative) := by
  decide +kernel

/-- Settles O5: the entry of an instruction describes it, and the penalty column is checked over
the registry. -/
theorem registryDescribesEveryInstruction : Obligations.RegistryDescribesEveryInstruction := by
  intro i
  obtain ⟨e, he, hop, hmode, hlen, hcycles, -⟩ := exists_entry_describes i
  obtain ⟨hcross, hbranch⟩ := penalty_of_mem_registry e (lookup_eq_some_iff.mp he).1
  have hrange := baseCycles_range i
  exact ⟨e, he, hop, hmode, hlen, hcycles, hcycles ▸ hrange.1, hcycles ▸ hrange.2,
    baseCycles_eq_specCost i, hcross, hbranch⟩

/-! ### Decoding and encoding -/

/-- What a template builds from operand bytes is encoded as the opcode and those bytes. -/
def Template.Encodes (opcode : Byte) : Template → Prop
  | .none i => encode i = [opcode]
  | .byte f => ∀ b, encode (f b) = [opcode, b]
  | .word f => ∀ a, encode (f a) = [opcode, lowByte a, highByte a]

theorem make_encodes_of_mem_registry : ∀ e ∈ registry, e.make.Encodes e.opcode := by
  simp only [registry, registryRows, registryRow0, registryRow1, registryRow2, registryRow3,
    registryRow4, registryRow5, registryRow6, registryRow7, registryRow8, registryRow9,
    registryRowA, registryRowB, registryRowC, registryRowD, registryRowE, registryRowF,
    List.forall_mem_flatten, List.forall_mem_cons, List.not_mem_nil, false_imp_iff, implies_true,
    and_true, Template.Encodes]
  and_intros <;> intros <;> rfl

/-- The decoder reads back what the encoder writes. -/
theorem decode_encode_append (i : Instr) (rest : List Byte) :
    decode (encode i ++ rest) = .ok i rest := by
  obtain ⟨e, he, -, -, -, -, hmake⟩ := exists_entry_describes i
  simp only [encode, List.cons_append, decode, he, hmake]

/-- What the operand bytes of an entry complete is encoded as its opcode and those bytes. -/
theorem encode_of_decodeOperands {t : Template} {opcode : Byte} (h : t.Encodes opcode)
    {bs rest : List Byte} {i : Instr} (hd : decodeOperands t bs = .ok i rest) :
    opcode :: bs = encode i ++ rest := by
  cases t with
  | none j =>
    cases hd
    rw [h]
    rfl
  | byte f =>
    match bs, hd with
    | b :: bs, hd =>
      cases hd
      rw [h]
      rfl
  | word f =>
    match bs, hd with
    | b1 :: b2 :: bs, hd =>
      cases hd
      rw [h, lowByte_addrOfBytes, highByte_addrOfBytes]
      rfl

/-- A byte stream that decodes to an instruction begins with its encoding. -/
theorem encode_of_decode {bs rest : List Byte} {i : Instr} (h : decode bs = .ok i rest) :
    bs = encode i ++ rest := by
  cases bs with
  | nil => cases h
  | cons b bs =>
    cases hb : lookup b with
    | none => simp [decode, hb] at h
    | some e =>
      obtain ⟨hmem, rfl⟩ := lookup_eq_some_iff.mp hb
      simp only [decode, hb] at h
      exact encode_of_decodeOperands (make_encodes_of_mem_registry e hmem) h

/-- Settles O2: `decode_encode_append` is one direction, `encode_of_decode` the other. -/
theorem decodeInvertsEncode : Obligations.DecodeInvertsEncode :=
  fun _ rest i => ⟨encode_of_decode, fun h => h ▸ decode_encode_append i rest⟩

/-! ### The bytes without an entry -/

theorem lookup_eq_none_iff (b : Byte) : lookup b = none ↔ b ∈ absentBytes := by
  rw [← Option.isNone_iff_eq_none]
  revert b
  decide +kernel

theorem decodeOperands_ne_unknownOpcode (t : Template) (bs : List Byte) (b : Byte) :
    decodeOperands t bs ≠ .unknownOpcode b := by
  unfold decodeOperands
  split <;> exact Decoded.noConfusion

/-- Settles O3: a byte is rejected by name exactly when the lookup finds no entry for it. -/
theorem rejectedBytesAreTheAbsent25 : Obligations.RejectedBytesAreTheAbsent25 := by
  intro b bs
  rw [← lookup_eq_none_iff]
  cases hb : lookup b with
  | none => simp [decode, hb]
  | some e => simp [decode, hb, decodeOperands_ne_unknownOpcode]

/-- Settles O1: each word is the encoding of its instruction, followed by the bytes left over. -/
theorem specWordsDecode : Obligations.SpecWordsDecode :=
  ⟨decode_encode_append (.andImm 0x0F) [], decode_encode_append (.adcAbs 0x1234) [],
    decode_encode_append .aslAcc [], decode_encode_append (.staAbxW 0x0200) [],
    decode_encode_append (.cpyAbs 0x0200) [], decode_encode_append (.bneRel 0xFE) [],
    decode_encode_append (.jmpInd 0x30FF) [], decode_encode_append .php [],
    decode_encode_append .brk [0b11101010], decode_encode_append (.uRraIzyW 0x20) []⟩

end Sys2Proof
end

section
/-! What every instruction and every step does to the history of the Bus, the cycle counter, memory
and the environment: one consequence of `Moves`, from which the invariants follow. -/

namespace Sys2Proof.Machine

/-! ### Bus events -/

/-- The address a Bus event writes, if it is a write. -/
def BusEvent.writtenAddr? : BusEvent → Option Addr
  | .write a _ => some a
  | .read _ _ => none
  | .tick _ => none

/-- The cycles a Bus event charges, if it is a tick. -/
def BusEvent.ticked? : BusEvent → Option Nat
  | .tick n => some n
  | .read _ _ => none
  | .write _ _ => none

@[simp] theorem writtenAddr?_write (a : Addr) (v : Byte) :
    (BusEvent.write a v).writtenAddr? = some a := rfl
@[simp] theorem writtenAddr?_read (a : Addr) (v : Byte) :
    (BusEvent.read a v).writtenAddr? = none := rfl
@[simp] theorem writtenAddr?_tick (n : Nat) : (BusEvent.tick n).writtenAddr? = none := rfl
@[simp] theorem ticked?_tick (n : Nat) : (BusEvent.tick n).ticked? = some n := rfl
@[simp] theorem ticked?_read (a : Addr) (v : Byte) : (BusEvent.read a v).ticked? = none := rfl
@[simp] theorem ticked?_write (a : Addr) (v : Byte) : (BusEvent.write a v).ticked? = none := rfl

/-- The cycles a history charges are the sum of its ticks. -/
theorem busTicks_eq_sum (es : List BusEvent) :
    busTicks es = (es.filterMap BusEvent.ticked?).sum := by
  induction es with
  | nil => rfl
  | cons e es ih => cases e <;> simp [busTicks, List.filterMap_cons, ih]

/-! ### Extending the history -/

/-- From `s` to `t` the machine has done the Bus events `new`: they are added to the history, the
ticks among them are charged, memory changes only where they write and keeps its canonical form,
and the environment's part of the state stays. -/
structure Extends (s t : State) (new : List BusEvent) : Prop where
  bus : t.bus = s.bus ++ new
  cyc : t.cyc = s.cyc + busTicks new
  ticks : ∀ n, BusEvent.tick n ∈ new → 1 ≤ n
  frame : ∀ a, a ∉ new.filterMap BusEvent.writtenAddr? → t.peek a = s.peek a
  canonical : Memory.wf s.mem = true → Memory.wf t.mem = true
  environment : EnvironmentUnchanged s t

namespace Extends

theorem refl (s : State) : Extends s s [] :=
  ⟨(List.append_nil _).symm, rfl, nofun, fun _ _ => rfl, id, rfl, rfl, rfl, rfl⟩

theorem trans {s t u : State} {es fs : List BusEvent} (h : Extends s t es) (k : Extends t u fs) :
    Extends s u (es ++ fs) where
  bus := by rw [k.bus, h.bus, List.append_assoc]
  cyc := by rw [k.cyc, h.cyc, busTicks_append, Nat.add_assoc]
  ticks n hn := (List.mem_append.mp hn).elim (h.ticks n) (k.ticks n)
  frame a ha := by
    rw [List.filterMap_append, List.mem_append, not_or] at ha
    rw [k.frame a ha.2, h.frame a ha.1]
  canonical hm := k.canonical (h.canonical hm)
  environment := by
    obtain ⟨hrun, hnmi, hirq, hsch⟩ := h.environment
    obtain ⟨krun, knmi, kirq, ksch⟩ := k.environment
    exact ⟨krun.trans hrun, knmi.trans hnmi, kirq.trans hirq, ksch.trans hsch⟩

theorem memRead (a : Addr) (s : State) :
    Extends s (memRead a s).2 [.read a (s.busAnswer a)] :=
  ⟨rfl, rfl, by simp, fun _ _ => rfl, id, rfl, rfl, rfl, rfl⟩

theorem memWrite (a : Addr) (v : Byte) (s : State) : Extends s (memWrite a v s) [.write a v] :=
  ⟨rfl, rfl, by simp, fun b hb => memWrite_peek_other v s (by simpa using hb),
    fun h => Memory.wf_write h a v, rfl, rfl, rfl, rfl⟩

theorem tick {n : Nat} (hn : 1 ≤ n) (s : State) : Extends s (tick n s) [.tick n] :=
  ⟨rfl, rfl, by simpa using hn, fun _ _ => rfl, id, rfl, rfl, rfl, rfl⟩

theorem setRegs (r : Regs) (s : State) : Extends s (setRegs r s) [] :=
  ⟨(List.append_nil _).symm, rfl, nofun, fun _ _ => rfl, id, rfl, rfl, rfl, rfl⟩

/-- The invariant is kept by whatever extends the history. -/
theorem inv {s t : State} {new : List BusEvent} (h : Extends s t new) (hs : s.Inv) : t.Inv where
  memory := h.canonical hs.memory
  cycles := by rw [h.cyc, h.bus, busTicks_append, hs.cycles]
  ticks n hn := by
    rw [h.bus, List.mem_append] at hn
    exact hn.elim (hs.ticks n) (h.ticks n)

end Extends

/-- Whatever the machine does extends the history. -/
theorem Moves.extends {s t : State} (h : Moves s t) : ∃ new, Extends s t new := by
  induction h with
  | refl => exact ⟨_, .refl s⟩
  | read a _ ih => obtain ⟨new, hnew⟩ := ih; exact ⟨_, hnew.trans (.memRead a _)⟩
  | write a v _ ih => obtain ⟨new, hnew⟩ := ih; exact ⟨_, hnew.trans (.memWrite a v _)⟩
  | tick n hn _ ih => obtain ⟨new, hnew⟩ := ih; exact ⟨_, hnew.trans (.tick hn _)⟩
  | regs r _ ih => obtain ⟨new, hnew⟩ := ih; exact ⟨_, hnew.trans (.setRegs r _)⟩

/-! ### Every instruction -/

/-- No action stops the machine. -/
theorem exists_runAction_eq_next (act : Action) (f : AddrForm) (n : Nat) (s : State) :
    ∃ t, runAction act f n s = .next t := by
  cases act
  case branch cond =>
    cases f
    case relative d =>
      simp only [runAction, branchInstr]
      split <;> exact ⟨_, rfl⟩
    all_goals exact ⟨_, rfl⟩
  all_goals cases f <;> exact ⟨_, rfl⟩

theorem exists_exec_eq_next (i : Instr) (s : State) : ∃ t, exec i s = .next t := by
  rw [exec_eq]
  exact exists_runAction_eq_next _ _ _ s

/-- Settles O12: no action stops, and what the moves of the machine extend leaves the environment's
part of the state. -/
theorem everyInstructionCompletes : Obligations.EveryInstructionCompletes := by
  intro i s
  obtain ⟨t, ht⟩ := exists_exec_eq_next i s
  obtain ⟨_, hnew⟩ := (exec_moves ht).extends
  exact ⟨t, ht, hnew.environment⟩

/-! ### Opening a boundary -/

theorem openBoundary_inv {s : State} (h : s.Inv) : (openBoundary s).Inv where
  memory := openBoundary_wf h.memory
  cycles := by rw [openBoundary_cyc, openBoundary_bus, h.cycles]
  ticks n hn := h.ticks n (by rwa [openBoundary_bus] at hn)

/-- A step that answers a next state extends the history of the opened boundary, whatever it does
to the NMI request. -/
theorem step_extends {s t : State} (h : step s = .next t) :
    ∃ nmi new, Extends { openBoundary s with nmiPending := nmi } t new := by
  obtain ⟨-, u, hu, hmoves⟩ := step_moves h
  obtain ⟨new, hnew⟩ := hmoves.extends
  rcases hu with rfl | rfl
  · exact ⟨_, new, hnew⟩
  · exact ⟨_, new, hnew⟩

theorem step_extends_bus {s t : State} (h : step s = .next t) :
    ∃ new, t.bus = s.bus ++ new ∧ t.cyc = s.cyc + busTicks new ∧
      ∀ n, BusEvent.tick n ∈ new → 1 ≤ n := by
  obtain ⟨nmi, new, hnew⟩ := step_extends h
  exact ⟨new, by rw [hnew.bus, openBoundary_bus], by rw [hnew.cyc, openBoundary_cyc],
    hnew.ticks⟩

/-- Settles O54: `tick` is its definition, and what a step adds to the history has no `Tick(0)`. -/
theorem ticksAdvanceTheCycleCounter : Obligations.TicksAdvanceTheCycleCounter := by
  refine ⟨fun _ _ => rfl, fun s t n h hn => ?_⟩
  obtain ⟨new, hbus, -, hticks⟩ := step_extends_bus h
  rw [hbus, List.drop_left] at hn
  exact hticks n hn

/-! ### The fetch -/

/-- The state after the fetch of `i`: one answer used up and one Bus read for each of its bytes. -/
def afterFetch (i : Instr) (s : State) : State := { s with
  answers := s.answers.drop i.len
  bus := s.bus ++ [BusEvent.read s.pc (s.answerAt 0 s.pc),
    .read (s.pc + 1) (s.answerAt 1 (s.pc + 1)), .read (s.pc + 2) (s.answerAt 2 (s.pc + 2))].take
      i.len }

/-- The three bytes the Bus answers at `PC` and after it, as a byte stream. -/
def fetchedBytes (s : State) : List Byte :=
  [s.answerAt 0 s.pc, s.answerAt 1 (s.pc + 1), s.answerAt 2 (s.pc + 2)]

theorem len_of_decode {bs rest : List Byte} {i : Instr} (h : decode bs = .ok i rest) :
    i.len = bs.length - rest.length := by
  rw [encode_of_decode h, List.length_append, encode_length, Instr.len]
  omega

theorem memRead_memRead_state (a b : Addr) (s : State) : (memRead b (memRead a s).2).2 = { s with
    answers := s.answers.drop 2
    bus := s.bus ++ [.read a (s.answerAt 0 a), .read b (s.answerAt 1 b)] } :=
  congrArg Prod.snd (readPair_spec a b s)

theorem memRead_memRead_memRead_state (a b c : Addr) (s : State) :
    (memRead c (memRead b (memRead a s).2).2).2 = { s with
      answers := s.answers.drop 3
      bus := s.bus ++ [.read a (s.answerAt 0 a), .read b (s.answerAt 1 b),
        .read c (s.answerAt 2 c)] } := by
  rw [memRead_spec c, answerAt_memRead, answerAt_memRead, memRead_memRead_state]
  simp

/-- The fetch of what the bytes at `PC` decode to. -/
theorem fetch_of_decode {s : State} {i : Instr} {rest : List Byte}
    (h : decode (fetchedBytes s) = .ok i rest) : fetch s = .instr i (afterFetch i s) := by
  have hlen := len_of_decode h
  unfold fetchedBytes decode at h
  simp only [fetch, memRead_value]
  cases hb : lookup (s.answerAt 0 s.pc) with
  | none => simp [hb] at h
  | some e =>
    simp only [hb] at h ⊢
    cases hmake : e.make <;> rw [hmake] at h <;> cases h <;> rw [afterFetch, hlen] <;>
      simp only [fetchOperands, memRead_value, answerAt_memRead, memRead_pc]
    case some.none.refl => rw [memRead_spec]; rfl
    case some.byte.refl => rw [memRead_memRead_state]; rfl
    case some.word.refl => rw [memRead_memRead_memRead_state]; rfl

/-- The fetch of an absent byte reads it and nothing more. -/
theorem fetch_of_absent {s : State} (h : s.answerAt 0 s.pc ∈ absentBytes) :
    fetch s = .unknown (s.answerAt 0 s.pc) (memRead s.pc s).2 := by
  simp only [fetch, memRead_value, (lookup_eq_none_iff _).mpr h]

/-- Bytes whose first is not absent decode, since three are enough for any instruction. -/
theorem exists_decode_of_not_absent {s : State} (h : s.answerAt 0 s.pc ∉ absentBytes) :
    ∃ i rest, decode (fetchedBytes s) = .ok i rest := by
  rw [← lookup_eq_none_iff] at h
  obtain ⟨e, he⟩ := Option.ne_none_iff_exists'.mp h
  simp only [fetchedBytes, decode, he]
  cases e.make <;> exact ⟨_, _, rfl⟩

/-! ### The step -/

theorem instructionStep_of_decode {s : State} {i : Instr} {rest : List Byte}
    (h : decode (fetchedBytes s) = .ok i rest) : instructionStep s = exec i (afterFetch i s) := by
  rw [instructionStep, fetch_of_decode h]

theorem instructionStep_of_absent {s : State} (h : s.answerAt 0 s.pc ∈ absentBytes) :
    instructionStep s = .fault (.unknownOpcode s.pc (s.answerAt 0 s.pc)
      { (memRead s.pc s).2 with run := .halted s.pc (s.answerAt 0 s.pc) }) := by
  rw [instructionStep, fetch_of_absent h]
  rfl

theorem step_of_halted {s : State} {pc : Addr} {c : Byte} (h : s.run = .halted pc c) :
    step s = .fault (.halted pc c) := by
  rw [step, h]

theorem step_of_nmi {s : State} (hrun : s.run = .idle) (h : (openBoundary s).nmiPending = true) :
    step s = .next (interruptEntry Config.vecNMI { openBoundary s with nmiPending := false }) := by
  rw [step_of_idle hrun, boundaryStep, if_pos h]

theorem step_of_irq {s : State} (hrun : s.run = .idle) (hnmi : (openBoundary s).nmiPending = false)
    (hirq : (openBoundary s).irqLine = true) (hi : s.p.i = false) :
    step s = .next (interruptEntry Config.vecIRQ (openBoundary s)) := by
  rw [step_of_idle hrun, boundaryStep, if_neg (by simp [hnmi]), if_pos (by simp [hirq, hi])]

theorem step_of_atInstruction {s : State} (h : s.AtInstruction) :
    step s = instructionStep (openBoundary s) := by
  obtain ⟨hrun, hdue⟩ := h
  obtain ⟨hnmi, hirq⟩ := Bool.or_eq_false_iff.mp hdue
  rw [step_of_idle hrun, boundaryStep, hnmi, hirq]
  rfl

/-- With an interrupt due an Idle core takes it, through one of two vectors outside page 1. -/
theorem exists_step_of_interruptDue {s : State} (hrun : s.run = .idle)
    (h : interruptDue (openBoundary s) = true) :
    ∃ (vec : Addr) (nmi : Bool), (512 ≤ vec.toNat ∧ vec.toNat < 65535) ∧
      step s = .next (interruptEntry vec { openBoundary s with nmiPending := nmi }) := by
  cases hnmi : (openBoundary s).nmiPending with
  | true => exact ⟨_, _, by decide, step_of_nmi hrun hnmi⟩
  | false =>
    obtain ⟨hirq, hi⟩ : (openBoundary s).irqLine = true ∧ s.p.i = false := by
      simpa [interruptDue, hnmi] using h
    exact ⟨_, _, by decide, step_of_irq hrun hnmi hirq hi⟩

/-- Settles O6: the fetch of the opened boundary, and then the dispatch. -/
theorem stepRunsTheDecodedInstruction : Obligations.StepRunsTheDecodedInstruction := by
  intro s i rest hat o b0 b1 b2 hdecode
  have hbytes : fetchedBytes o = [b0, b1, b2] := by rw [fetchedBytes, openBoundary_pc]
  rw [step_of_atInstruction hat, instructionStep_of_decode (hbytes ▸ hdecode), afterFetch,
    openBoundary_pc, openBoundary_bus, openBoundary_answers]

/-- Settles O7: the fetch of the opened boundary finds no entry. -/
theorem stepFaultsOnAbsentOpcode : Obligations.StepFaultsOnAbsentOpcode := by
  intro s hat o habsent
  have hpc : o.pc = s.pc := openBoundary_pc s
  rw [← hpc] at habsent ⊢
  rw [step_of_atInstruction hat, instructionStep_of_absent habsent, memRead_spec,
    openBoundary_answers, openBoundary_bus]

/-- The step at an instruction, by the byte at `PC`: an absent one faults, any other is executed. -/
theorem step_atInstruction_cases {s : State} (h : s.AtInstruction) :
    let o := openBoundary s
    let b := o.answerAt 0 s.pc
    (b ∉ absentBytes ∧ ∃ i t, step s = exec i (afterFetch i o) ∧ step s = .next t) ∨
    (b ∈ absentBytes ∧ step s = .fault (.unknownOpcode s.pc b
      { (memRead s.pc o).2 with run := .halted s.pc b })) := by
  intro o b
  have hpc : o.pc = s.pc := openBoundary_pc s
  rw [step_of_atInstruction h]
  by_cases hb : b ∈ absentBytes
  · have hstep := instructionStep_of_absent (s := o) (by rwa [hpc])
    exact .inr ⟨hb, by rwa [hpc] at hstep⟩
  · refine .inl ⟨hb, ?_⟩
    obtain ⟨i, rest, hdecode⟩ := exists_decode_of_not_absent (s := o) (by rwa [hpc])
    obtain ⟨t, ht⟩ := exists_exec_eq_next i (afterFetch i o)
    have hstep := instructionStep_of_decode hdecode
    exact ⟨i, t, hstep, hstep.trans ht⟩

/-- What a step does: refuse nothing, fault in a Halted core or at an absent byte, else go on with
an interrupt entry or an instruction. -/
theorem step_cases (s : State) :
    (∃ pc c, s.run = .halted pc c ∧ step s = .fault (.halted pc c)) ∨
    (s.run = .idle ∧ interruptDue (openBoundary s) = true ∧
      ∃ (vec : Addr) (nmi : Bool), (512 ≤ vec.toNat ∧ vec.toNat < 65535) ∧
        step s = .next (interruptEntry vec { openBoundary s with nmiPending := nmi })) ∨
    s.AtInstruction := by
  cases hrun : s.run with
  | halted pc c => exact .inl ⟨pc, c, rfl, step_of_halted hrun⟩
  | idle =>
    cases hdue : interruptDue (openBoundary s) with
    | true => exact .inr (.inl ⟨rfl, rfl, exists_step_of_interruptDue hrun hdue⟩)
    | false => exact .inr (.inr ⟨hrun, hdue⟩)

/-- Settles O8: each of the cases of `step_cases` by the outcome it has. -/
theorem stepStopsOnlyOnAbsentOpcode : Obligations.StepStopsOnlyOnAbsentOpcode := by
  intro s
  dsimp only
  obtain ⟨pc, c, hrun, hstep⟩ | ⟨hrun, hdue, vec, nmi, -, hstep⟩ | hat := step_cases s
  · simp [hrun, hstep]
  · simp [hrun, hstep, hdue]
  · obtain ⟨hrun, hdue⟩ := id hat
    obtain ⟨hb, -, t, -, hstep⟩ | ⟨hb, hstep⟩ := step_atInstruction_cases hat
    · simp [hrun, hstep, hb]
    · simp [hrun, hstep, hdue, hb]

/-- Settles O58: a step extends the history of the opened boundary, and so does the one read before
the fault of an absent byte. -/
theorem stepKeepsTheInvariant : Obligations.StepKeepsTheInvariant := by
  intro s hs
  have ho := openBoundary_inv hs
  refine ⟨fun t h => ?next, fun pc b t h => ?fault⟩
  case next =>
    obtain ⟨nmi, new, hnew⟩ := step_extends h
    exact hnew.inv ⟨ho.memory, ho.cycles, ho.ticks⟩
  case fault =>
    obtain ⟨_, _, _, hstep⟩ | ⟨_, _, _, _, _, hstep⟩ | hat := step_cases s
    · cases hstep.symm.trans h
    · cases hstep.symm.trans h
    · obtain ⟨-, -, _, -, hstep⟩ | ⟨-, hstep⟩ := step_atInstruction_cases hat
      · cases hstep.symm.trans h
      · cases hstep.symm.trans h
        have hread := (Extends.memRead s.pc (openBoundary s)).inv ho
        exact ⟨hread.memory, hread.cycles, hread.ticks⟩

end Sys2Proof.Machine
end

section
/-! Interrupt entries and power-on (60_exceptions.md R205 to R210, 70_reset_and_hazards.md R230,
R231): the state either leaves, field by field. -/

namespace Sys2Proof.Machine

/-! ### The interrupt entries -/

/-- The status an interrupt entry pushes has bit 5 set and bit 4 clear. -/
theorem Flags.pack_false_eq (f : Flags) : f.pack false = (f.pack false &&& 0xEF) ||| 0x20 := by
  obtain ⟨n, v, d, i, z, c⟩ := f
  revert n v d i z c
  decide

/-- The whole effect of an interrupt entry through a vector outside page 1. -/
theorem interruptEntry_spec (vector : Addr) (s : State)
    (hv : 512 ≤ vector.toNat ∧ vector.toNat < 65535) : interruptEntry vector s = { s with
      sp := s.sp - 3
      pc := s.pointerAt 0 vector (vector + 1)
      p := { s.p with i := true }
      cyc := s.cyc + 7
      mem := exceptionMem s s.pc (s.p.pack false)
      answers := s.answers.drop 2
      bus := s.bus ++ [.write (stackAddr s.sp) (highByte s.pc),
        .write (stackAddr (s.sp - 1)) (lowByte s.pc),
        .write (stackAddr (s.sp - 2)) ((s.p.pack false &&& 0xEF) ||| 0x20),
        .read vector (s.answerAt 0 vector),
        .read (vector + 1) (s.answerAt 1 (vector + 1)), .tick 7] } := by
  rw [interruptEntry, takeException_spec vector s.pc false s hv, tick, ← Flags.pack_false_eq]
  simp [Config.entryCycles]

/-- An interrupt entry at an opened boundary, seen from the state before the environment's moves. -/
theorem interruptEntry_openBoundary (vector : Addr) (s : State) (nmi : Bool)
    (hv : 512 ≤ vector.toNat ∧ vector.toNat < 65535) :
    let o := openBoundary s
    let t := interruptEntry vector { o with nmiPending := nmi }
    t.regs = { s.regs with
      sp := s.sp - 3, pc := o.pointerAt 0 vector (vector + 1), p := { s.p with i := true } } ∧
    t.bus = s.bus ++ [.write (stackAddr s.sp) (highByte s.pc),
      .write (stackAddr (s.sp - 1)) (lowByte s.pc),
      .write (stackAddr (s.sp - 2)) ((s.p.pack false &&& 0xEF) ||| 0x20),
      .read vector (o.answerAt 0 vector), .read (vector + 1) (o.answerAt 1 (vector + 1)),
      .tick 7] ∧
    t.cyc = s.cyc + 7 ∧ t.nmiPending = nmi ∧ t.irqLine = o.irqLine ∧ t.run = s.run ∧
    t.schedule = s.schedule.tail ∧
    (∀ a, a ∉ [stackAddr s.sp, stackAddr (s.sp - 1), stackAddr (s.sp - 2)] →
      t.peek a = o.peek a) := by
  intro o t
  obtain ⟨nmi', irq, mem, ho⟩ := openBoundary_frame s
  have ht : t = _ := interruptEntry_spec vector { o with nmiPending := nmi } hv
  rw [ht, show o = _ from ho]
  exact ⟨rfl, rfl, rfl, rfl, rfl, rfl, rfl, fun a ha => exceptionMem_read _ _ ha⟩

/-- Settles O9: the entry at the opened boundary, with its request cleared. -/
theorem nmiEntryStep : Obligations.NmiEntryStep := by
  intro s o hrun hnmi
  obtain ⟨hregs, hbus, hcyc, hclear, hline, hidle, hrest⟩ :=
    interruptEntry_openBoundary Config.vecNMI s false (by decide)
  exact ⟨_, step_of_nmi hrun hnmi, hregs, hbus, hcyc, hclear, hline, hidle.trans hrun, hrest⟩

/-- Settles O10: the entry at the opened boundary, its request and its line as they are there. -/
theorem irqEntryStep : Obligations.IrqEntryStep := by
  intro s o hrun hnmi hirq hi
  obtain ⟨hregs, hbus, hcyc, hpending, hline, hidle, hrest⟩ :=
    interruptEntry_openBoundary Config.vecIRQ s o.nmiPending (by decide)
  exact ⟨_, step_of_irq hrun hnmi hirq hi, hregs, hbus, hcyc, hpending.trans hnmi,
    hline.trans hirq, hidle.trans hrun, hrest⟩

/-! ### The environment's moves -/

theorem applyMove_keeps_nmiPending (m : EnvMove) {s : State} (h : s.nmiPending = true) :
    (applyMove s m).nmiPending = true := by
  cases m
  case nmiEdge => rfl
  case irqLevel level => exact h
  case poke a v => exact h

theorem foldl_applyMove_keeps_nmiPending (moves : List EnvMove) {s : State}
    (h : s.nmiPending = true) : (moves.foldl applyMove s).nmiPending = true := by
  induction moves generalizing s with
  | nil => exact h
  | cons m moves ih => exact ih (applyMove_keeps_nmiPending m h)

/-- One edge anywhere among the moves of a boundary leaves the request latched. -/
theorem foldl_applyMove_nmiPending {moves : List EnvMove} (h : EnvMove.nmiEdge ∈ moves)
    (s : State) : (moves.foldl applyMove s).nmiPending = true := by
  induction moves generalizing s with
  | nil => cases h
  | cons m moves ih =>
    rcases List.mem_cons.mp h with rfl | h
    · exact foldl_applyMove_keeps_nmiPending moves rfl
    · exact ih h _

/-- Settles O11: a boundary makes its moves by `applyMove`, and with an edge among them the step is
the NMI entry of O9. -/
theorem nmiEdgesGiveOneEntry : Obligations.NmiEdgesGiveOneEntry := by
  refine ⟨fun _ => openBoundary_quiet, fun _ _ => rfl, fun _ _ _ => rfl, fun _ _ _ _ => rfl,
    fun _ _ _ _ _ => rfl, fun s moves later hrun hsch hedge => ?_⟩
  have hnmi : (openBoundary s).nmiPending = true := by
    rw [openBoundary, hsch]
    exact foldl_applyMove_nmiPending hedge _
  obtain ⟨t, hstep, hregs, hbus, hcyc, hclear, -, -, htail, -⟩ := nmiEntryStep s hrun hnmi
  exact ⟨t, hstep, hregs, hbus, hcyc, hclear, by rw [htail, hsch, List.tail_cons]⟩

/-! ### Power-on -/

/-- Power-on without a `ResetPC` loads `PC` from the RESET vector. -/
theorem powerOn_none (platform : State) : powerOn none platform = { platform with
    a := 0x00, x := 0x00, y := 0x00, sp := 0xFD, p := Flags.unpack 0x24, nmiPending := false
    run := .idle, cyc := 7, pc := platform.pointerAt 0 0xFFFC 0xFFFD
    answers := platform.answers.drop 2
    bus := [.read 0xFFFC (platform.answerAt 0 0xFFFC),
      .read 0xFFFD (platform.answerAt 1 0xFFFD), .tick 7] } := by
  simp only [powerOn, read16, readPair_spec]
  rfl

/-- Power-on with a `ResetPC` reads no vector. -/
theorem powerOn_some (pc : Addr) (platform : State) : powerOn (some pc) platform = { platform with
    a := 0x00, x := 0x00, y := 0x00, sp := 0xFD, p := Flags.unpack 0x24, nmiPending := false
    run := .idle, cyc := 7, pc := pc, bus := [.tick 7] } := rfl

/-- Settles O56, by whether `ResetPC` is given. -/
theorem powerOnSetsTheResetValues : Obligations.PowerOnSetsTheResetValues := by
  intro resetPC platform s
  have hp : (Flags.unpack 0x24).pack false = 0x24 := by decide
  cases resetPC with
  | none =>
    have hs : s = _ := powerOn_none platform
    rw [hs]
    exact ⟨rfl, rfl, rfl, rfl, hp, rfl, rfl, rfl, rfl, nofun, fun _ => ⟨rfl, rfl⟩⟩
  | some pc =>
    refine ⟨rfl, rfl, rfl, rfl, hp, rfl, rfl, rfl, rfl, fun pc' h => ?_, nofun⟩
    cases h
    exact ⟨rfl, rfl⟩

/-- Settles O57: power-on is evaluated, and three events are checked. -/
theorem resetHasTheInvariant : Obligations.ResetHasTheInvariant :=
  ⟨by decide, reset_memory_wf, rfl, by simp [State.reset]⟩

end Sys2Proof.Machine
end

section
/-! Every instruction by its operand class (40_step_and_addressing.md R89): the Bus events of each
class, and from them the cycles charged, the addresses written, and the accesses of the data
forms. -/

namespace Sys2Proof.Machine

/-! ### The shapes of an instruction -/

/-- The action and the operand form an instruction can have together. -/
inductive Shape (i : Instr) : Prop
  | readImm (act : Byte → State → State) (v : Byte)
      (hact : actionOf i.op = .read act) (hform : i.form = .immediate v)
  | readMem (act : Byte → State → State) (m : MemForm) (hact : actionOf i.op = .read act)
      (hform : i.form = .mem m) (hdata : dataForm m = true)
  | readNone (act : Byte → State → State) (hact : actionOf i.op = .read act)
      (hform : i.form = .implicit) (hop : i.op = .uNop)
  | write (value : State → Byte) (m : MemForm) (hact : actionOf i.op = .write value)
      (hform : i.form = .mem m) (hdata : dataForm m = true)
  | rmw (new : State → Byte → Byte) (after : Byte → Byte → State → State) (m : MemForm)
      (hact : actionOf i.op = .rmw new after) (hform : i.form = .mem m) (hdata : dataForm m = true)
  | acc (new : State → Byte → Byte) (after : Byte → Byte → State → State)
      (hact : actionOf i.op = .rmw new after) (hform : i.form = .accumulator)
      (hop : i.op ∈ shiftOps)
  | implied (act : State → State) (hact : actionOf i.op = .implied act)
      (hform : i.form = .implicit)
  | branch (cond : Flags → Bool) (d : Byte) (hact : actionOf i.op = .branch cond)
      (hform : i.form = .relative d)
  | jump (m : MemForm) (hact : actionOf i.op = .jump) (hform : i.form = .mem m)
  | jsr (m : MemForm) (hact : actionOf i.op = .jsr) (hform : i.form = .mem m)
  | rts (hact : actionOf i.op = .rts) (hform : i.form = .implicit)
  | brk (hact : actionOf i.op = .brk) (hform : i.form = .implicit)
  | rti (hact : actionOf i.op = .rti) (hform : i.form = .implicit)

/-- Every instruction has one of the shapes. -/
theorem shape (i : Instr) : Shape i := by
  have hfit := form_fits i
  cases hact : actionOf i.op <;> cases hform : i.form <;> simp [formFits, hact, hform] at hfit
  case read.implicit => exact .readNone _ hact hform hfit
  case read.immediate => exact .readImm _ _ hact hform
  case read.mem => exact .readMem _ _ hact hform hfit
  case write.mem => exact .write _ _ hact hform hfit.1
  case rmw.mem => exact .rmw _ _ _ hact hform hfit.1
  case rmw.accumulator => exact .acc _ _ hact hform hfit
  case implied.implicit => exact .implied _ hact hform
  case branch.relative => exact .branch _ _ hact hform
  case jump.mem => exact .jump _ hact hform
  case jsr.mem => exact .jsr _ hact hform
  case rts.implicit => exact .rts hact hform
  case brk.implicit => exact .brk hact hform
  case rti.implicit => exact .rti hact hform

/-! ### The state each class leaves -/

theorem exec_read_imm {i : Instr} {act : Byte → State → State} {v : Byte}
    (hact : actionOf i.op = .read act) (hform : i.form = .immediate v) (s : State) :
    exec i s = .next (finish (encode i).length i.baseCycles (act v s)) := by
  rw [exec_eq, hact, encode_length, hform]
  rfl

theorem exec_read_none {i : Instr} {act : Byte → State → State}
    (hact : actionOf i.op = .read act) (hform : i.form = .implicit) (s : State) :
    exec i s = .next (finish (encode i).length i.baseCycles s) := by
  rw [exec_eq, hact, encode_length, hform]
  rfl

theorem exec_acc {i : Instr} {new : State → Byte → Byte}
    {after : Byte → Byte → State → State} (hact : actionOf i.op = .rmw new after)
    (hform : i.form = .accumulator) (s : State) :
    exec i s = .next (finish (encode i).length i.baseCycles
      (after s.a (new s s.a) { s with a := new s s.a })) := by
  rw [exec_eq, hact, encode_length, hform]
  rfl

theorem exec_implied {i : Instr} {act : State → State}
    (hact : actionOf i.op = .implied act) (hform : i.form = .implicit) (s : State) :
    exec i s = .next (finish (encode i).length i.baseCycles (act s)) := by
  rw [exec_eq, hact, encode_length, hform]
  rfl

theorem exec_branch {i : Instr} {cond : Flags → Bool} {d : Byte}
    (hact : actionOf i.op = .branch cond) (hform : i.form = .relative d) (s : State) :
    exec i s = if cond s.p then
        .next (finishAt (branchTarget s.pc d) (i.baseCycles + branchPenalty s.pc d) s)
      else .next (finish (encode i).length i.baseCycles s) := by
  rw [exec_eq, hact, encode_length, hform]
  rfl

theorem exec_jump {i : Instr} {m : MemForm} (hact : actionOf i.op = .jump)
    (hform : i.form = .mem m) (s : State) : exec i s =
      .next (finishAt (eaOf i s) i.baseCycles (effectiveAddress m s).2) := by
  rw [exec_eq, hact, eaOf_of_form_mem hform, hform]
  rfl

theorem exec_jsr {i : Instr} {m : MemForm} (hact : actionOf i.op = .jsr)
    (hform : i.form = .mem m) (s : State) : exec i s =
      .next (finishAt (eaOf i s) i.baseCycles (pushAddr (s.pc + 2) (effectiveAddress m s).2)) := by
  rw [exec_eq, hact, eaOf_of_form_mem hform, hform]
  rfl

theorem exec_rts {i : Instr} (hact : actionOf i.op = .rts) (s : State) : exec i s =
    .next (finishAt ((pullAddr s).1 + 1) i.baseCycles (pullAddr s).2) := by
  rw [exec_eq, hact]
  rfl

theorem exec_brk_action {i : Instr} (hact : actionOf i.op = .brk) (s : State) : exec i s =
    .next (tick i.baseCycles (takeException Config.vecIRQ (s.pc + 2) true s)) := by
  rw [exec_eq, hact]
  rfl

theorem exec_rti {i : Instr} (hact : actionOf i.op = .rti) (s : State) : exec i s =
    .next (tick i.baseCycles (returnFromException s)) := by
  rw [exec_eq, hact]
  rfl

theorem exec_write_mem {i : Instr} {value : State → Byte} {m : MemForm}
    (hact : actionOf i.op = .write value) (hform : i.form = .mem m) (s : State) :
    exec i s = .next (finish (encode i).length i.baseCycles
      (memWrite (eaOf i s) (value (effectiveAddress m s).2) (effectiveAddress m s).2)) := by
  rw [exec_eq, hact, encode_length, eaOf_of_form_mem hform, hform]
  rfl

theorem exec_rmw_mem {i : Instr} {new : State → Byte → Byte}
    {after : Byte → Byte → State → State} {m : MemForm} (hact : actionOf i.op = .rmw new after)
    (hform : i.form = .mem m) (s : State) :
    exec i s = .next (finish (encode i).length i.baseCycles
      (after (operandOf i s) (new (readOperand (.mem m) s).2 (operandOf i s))
        (memWrite (eaOf i s) (new (readOperand (.mem m) s).2 (operandOf i s))
          (readOperand (.mem m) s).2))) := by
  rw [exec_eq, hact, encode_length, eaOf_of_form_mem hform, operandOf_of_form_mem hform, hform]
  rfl

/-- What an action makes of its operand, and the registers it leaves, come from the registers alone:
no Bus access before changes them. -/
def actionReadsRegs : Action → Prop
  | .read act => ∀ v s u, (act v u).regs = (act v (setRegs u.regs s)).regs
  | .write value => ∀ s u, value u = value (setRegs u.regs s)
  | .rmw new after => (∀ s u v, new u v = new (setRegs u.regs s) v) ∧
      ∀ v r s u, (after v r u).regs = (after v r (setRegs u.regs s)).regs
  | .implied _ | .branch _ | .jump | .jsr | .rts | .brk | .rti => True

theorem action_reads_regs (o : Op) : actionReadsRegs (actionOf o) := by
  cases o
  all_goals first
    | exact trivial
    | exact fun _ _ => rfl
    | exact fun _ _ _ => rfl
    | exact ⟨fun _ _ _ => rfl, fun _ _ _ _ => rfl⟩

theorem read_act_regs_congr {o : Op} {act : Byte → State → State}
    (hact : actionOf o = .read act) (v : Byte) {s u : State} (h : u.regs = s.regs) :
    (act v u).regs = (act v s).regs := by
  have hreads := action_reads_regs o
  rw [hact] at hreads
  rw [hreads v s u, h]
  rfl

theorem rmw_after_regs_congr {o : Op} {new : State → Byte → Byte}
    {after : Byte → Byte → State → State} (hact : actionOf o = .rmw new after) (v r : Byte)
    {s u : State} (h : u.regs = s.regs) : (after v r u).regs = (after v r s).regs := by
  have hreads := action_reads_regs o
  rw [hact] at hreads
  rw [hreads.2 v r s u, h]
  rfl

theorem readOperand_mem_regs (m : MemForm) (s : State) :
    (readOperand (.mem m) s).2.regs = s.regs := by
  rw [readOperand_mem_state]
  rfl

theorem effectiveAddress_regs (m : MemForm) (s : State) :
    (effectiveAddress m s).2.regs = s.regs := by
  rw [effectiveAddress_state]
  rfl

theorem value_effectiveAddress {o : Op} {value : State → Byte} (hact : actionOf o = .write value)
    (m : MemForm) (s : State) : value (effectiveAddress m s).2 = value s := by
  have h := action_reads_regs o
  rw [hact] at h
  rw [h s, effectiveAddress_regs]
  rfl

theorem new_readOperand {o : Op} {new : State → Byte → Byte}
    {after : Byte → Byte → State → State} (hact : actionOf o = .rmw new after) (m : MemForm)
    (s : State) (v : Byte) :
    new (readOperand (.mem m) s).2 v = new s v := by
  have h := action_reads_regs o
  rw [hact] at h
  rw [h.1 s, readOperand_mem_regs]
  rfl

/-! ### The Bus events of each class -/

/-- The Bus events of the stack instructions with no other operand. -/
def stackEvents (o : Op) (s : State) : List BusEvent :=
  match o with
  | .pha => [.write (stackAddr s.sp) s.a]
  | .php => [.write (stackAddr s.sp) (s.p.pack true)]
  | .pla | .plp => [.read (stackAddr (s.sp + 1)) (s.answerAt 0 (stackAddr (s.sp + 1)))]
  | _ => []

/-- The Bus events of an instruction after the fetch, before the tick that ends it. -/
def accessEvents (i : Instr) (s : State) : List BusEvent :=
  match actionOf i.op, i.form with
  | .read _, .mem m =>
    resolveReads m s ++ penaltyTicks m s ++ [.read (eaOf i s) (operandOf i s)]
  | .write value, .mem m =>
    resolveReads m s ++ penaltyTicks m s ++ [.write (eaOf i s) (value s)]
  | .rmw new _, .mem m =>
    resolveReads m s ++ penaltyTicks m s ++
      [.read (eaOf i s) (operandOf i s), .write (eaOf i s) (new s (operandOf i s))]
  | .jump, .mem m => resolveReads m s ++ penaltyTicks m s
  | .jsr, .mem m =>
    resolveReads m s ++ penaltyTicks m s ++ [.write (stackAddr s.sp) (highByte (s.pc + 2)),
      .write (stackAddr (s.sp - 1)) (lowByte (s.pc + 2))]
  | .implied _, .implicit => stackEvents i.op s
  | .rts, .implicit => [.read (stackAddr (s.sp + 1)) (s.answerAt 0 (stackAddr (s.sp + 1))),
      .read (stackAddr (s.sp + 1 + 1)) (s.answerAt 1 (stackAddr (s.sp + 1 + 1)))]
  | .brk, .implicit => [.write (stackAddr s.sp) (highByte (s.pc + 2)),
      .write (stackAddr (s.sp - 1)) (lowByte (s.pc + 2)),
      .write (stackAddr (s.sp - 2)) (s.p.pack true),
      .read 0xFFFE (s.answerAt 0 0xFFFE), .read 0xFFFF (s.answerAt 1 0xFFFF)]
  | .rti, .implicit => [.read (stackAddr (s.sp + 1)) (s.answerAt 0 (stackAddr (s.sp + 1))),
      .read (stackAddr (s.sp + 2)) (s.answerAt 1 (stackAddr (s.sp + 2))),
      .read (stackAddr (s.sp + 3)) (s.answerAt 2 (stackAddr (s.sp + 3)))]
  | _, _ => []

theorem implied_bus {o : Op} {act : State → State} (hact : actionOf o = .implied act)
    (s : State) : (act s).bus = s.bus ++ stackEvents o s := by
  cases o <;> cases hact <;>
    simp [stackEvents, pushA, pushP, pullA, pullP, busAnswer_eq] <;> rfl

theorem branchTaken_eq_cond {i : Instr} {cond : Flags → Bool}
    (hact : actionOf i.op = .branch cond) (f : Flags) : branchTaken i f = cond f := by
  unfold branchTaken
  generalize i.op = o at hact
  cases o <;> cases hact <;> simp

theorem branchTaken_eq_false {i : Instr} (h : ∀ cond, actionOf i.op ≠ .branch cond)
    (f : Flags) : branchTaken i f = false := by
  unfold branchTaken
  generalize i.op = o at h
  cases o <;> first | rfl | exact absurd rfl (h _)

theorem branchExtra_of_branch {i : Instr} {cond : Flags → Bool} {d : Byte}
    (hact : actionOf i.op = .branch cond) (hform : i.form = .relative d) (s : State) :
    branchExtra i s = if cond s.p then branchPenalty s.pc d else 0 := by
  rw [branchExtra, branchTaken_eq_cond hact, dispOf, hform]

theorem branchExtra_eq_zero {i : Instr} (h : ∀ cond, actionOf i.op ≠ .branch cond) (s : State) :
    branchExtra i s = 0 := by
  rw [branchExtra, branchTaken_eq_false h]
  rfl

theorem effectiveAddress_bus (m : MemForm) (s : State) :
    (effectiveAddress m s).2.bus = s.bus ++ (resolveReads m s ++ penaltyTicks m s) := by
  rw [effectiveAddress_state]

theorem readOperand_mem_bus {i : Instr} {m : MemForm} (hform : i.form = .mem m) (s : State) :
    (readOperand (.mem m) s).2.bus = s.bus ++
      (resolveReads m s ++ penaltyTicks m s ++ [.read (eaOf i s) (operandOf i s)]) := by
  rw [readOperand_mem_state, eaOf_of_form_mem hform, operandOf_of_form_mem hform]

theorem setRegs_bus (r : Regs) (s : State) : (setRegs r s).bus = s.bus := rfl

/-- The effect of a reading instruction is on registers only. -/
theorem read_act_eq_setRegs {o : Op} {act : Byte → State → State}
    (hact : actionOf o = .read act) (v : Byte) (s : State) :
    act v s = setRegs (act v s).regs s := by
  have h := action_fits o
  rw [hact] at h
  exact h v s

/-- So is what a read-modify-write instruction does after its write. -/
theorem rmw_after_eq_setRegs {o : Op} {new : State → Byte → Byte}
    {after : Byte → Byte → State → State} (hact : actionOf o = .rmw new after) (v r : Byte)
    (s : State) : after v r s = setRegs (after v r s).regs s := by
  have h := action_fits o
  rw [hact] at h
  exact h v r s

/-- The Bus events of an instruction: those of its accesses, then the tick that ends it. -/
theorem exec_bus {i : Instr} {s t : State} (h : exec i s = .next t) :
    t.bus = s.bus ++ (accessEvents i s ++ [.tick (i.baseCycles + branchExtra i s)]) := by
  cases shape i with
  | readImm act v hact hform =>
    rw [exec_read_imm hact hform, read_act_eq_setRegs hact] at h
    cases h
    simp [accessEvents, hact, hform, branchExtra_eq_zero, setRegs_bus]
  | readMem act m hact hform =>
    rw [exec_read_mem hact hform, read_act_eq_setRegs hact] at h
    cases h
    simp [accessEvents, hact, hform, branchExtra_eq_zero, setRegs_bus, readOperand_mem_bus hform]
  | readNone act hact hform =>
    rw [exec_read_none hact hform] at h
    cases h
    simp [accessEvents, hact, hform, branchExtra_eq_zero]
  | write value m hact hform =>
    rw [exec_write_mem hact hform, value_effectiveAddress hact] at h
    cases h
    simp [accessEvents, hact, hform, branchExtra_eq_zero, effectiveAddress_bus]
  | rmw new after m hact hform =>
    rw [exec_rmw_mem hact hform, rmw_after_eq_setRegs hact, new_readOperand hact] at h
    cases h
    simp [accessEvents, hact, hform, branchExtra_eq_zero, setRegs_bus, readOperand_mem_bus hform]
  | acc new after hact hform =>
    rw [exec_acc hact hform, rmw_after_eq_setRegs hact] at h
    cases h
    simp [accessEvents, hact, hform, branchExtra_eq_zero, setRegs_bus]
  | implied act hact hform =>
    rw [exec_implied hact hform] at h
    cases h
    simp [accessEvents, hact, hform, branchExtra_eq_zero, implied_bus hact]
  | branch cond d hact hform =>
    rw [exec_branch hact hform] at h
    split at h <;> cases h <;>
      simp [accessEvents, branchExtra_of_branch hact hform, *]
  | jump m hact hform =>
    rw [exec_jump hact hform] at h
    cases h
    simp [accessEvents, hact, hform, branchExtra_eq_zero, effectiveAddress_bus]
  | jsr m hact hform =>
    rw [exec_jsr hact hform, pushAddr_spec] at h
    cases h
    simp [accessEvents, hact, hform, branchExtra_eq_zero, effectiveAddress_bus]
  | rts hact hform =>
    rw [exec_rts hact, pullAddr_spec] at h
    cases h
    simp [accessEvents, hact, hform, branchExtra_eq_zero]
  | brk hact hform =>
    rw [exec_brk_action hact, takeException_spec _ _ _ _ (by decide)] at h
    cases h
    simp [accessEvents, hact, hform, branchExtra_eq_zero, Config.vecIRQ]
  | rti hact hform =>
    rw [exec_rti hact, returnFromException_spec] at h
    cases h
    simp [accessEvents, hact, hform, branchExtra_eq_zero]

/-- An instruction extends the history by its events and the tick that ends it. -/
theorem exec_extends {i : Instr} {s t : State} (h : exec i s = .next t) :
    Extends s t (accessEvents i s ++ [.tick (i.baseCycles + branchExtra i s)]) := by
  obtain ⟨new, hnew⟩ := (exec_moves h).extends
  obtain rfl := List.append_cancel_left (hnew.bus.symm.trans (exec_bus h))
  exact hnew

/-! ### The cycles of an instruction -/

@[simp] theorem filterMap_ticked?_resolveReads (m : MemForm) (s : State) :
    (resolveReads m s).filterMap BusEvent.ticked? = [] := by
  cases m <;> rfl

theorem paysExtra_of_form_mem {i : Instr} {m : MemForm} (hform : i.form = .mem m) (s : State) :
    paysExtra i s = (paysPageCross m.mode && (resolve m s).1.extra) := by
  rw [paysExtra, hform]

theorem penaltyTicks_eq {i : Instr} {m : MemForm} (hform : i.form = .mem m) (s : State) :
    penaltyTicks m s = if paysExtra i s then [.tick 1] else [] := by
  rw [penaltyTicks, paysExtra_of_form_mem hform, Bool.and_comm]

theorem filterMap_ticked?_penaltyTicks {i : Instr} {m : MemForm} (hform : i.form = .mem m)
    (s : State) :
    (penaltyTicks m s).filterMap BusEvent.ticked? = if paysExtra i s then [1] else [] := by
  rw [penaltyTicks_eq hform]
  split <;> rfl

theorem filterMap_ticked?_stackEvents (o : Op) (s : State) :
    (stackEvents o s).filterMap BusEvent.ticked? = [] := by
  cases o <;> rfl

/-- The only tick among the accesses of an instruction is the one of a page crossing. -/
theorem filterMap_ticked?_accessEvents (i : Instr) (s : State) :
    (accessEvents i s).filterMap BusEvent.ticked? = if paysExtra i s then [1] else [] := by
  have hmem {m : MemForm} (hform : i.form = .mem m) := filterMap_ticked?_penaltyTicks hform s
  have hnone (hform : ∀ m, i.form ≠ .mem m) : paysExtra i s = false := by
    unfold paysExtra
    split
    · exact absurd ‹_› (hform _)
    · rfl
  cases shape i with
  | readImm act v hact hform => simp [accessEvents, hact, hform, hnone]
  | readMem act m hact hform => simp [accessEvents, hact, hform, hmem]
  | readNone act hact hform => simp [accessEvents, hact, hform, hnone]
  | write value m hact hform => simp [accessEvents, hact, hform, hmem]
  | rmw new after m hact hform => simp [accessEvents, hact, hform, hmem, List.filterMap_cons]
  | acc new after hact hform => simp [accessEvents, hact, hform, hnone]
  | implied act hact hform =>
    simp [accessEvents, hact, hform, hnone, filterMap_ticked?_stackEvents]
  | branch cond d hact hform => simp [accessEvents, hact, hform, hnone]
  | jump m hact hform => simp [accessEvents, hact, hform, hmem]
  | jsr m hact hform => simp [accessEvents, hact, hform, hmem, List.filterMap_cons]
  | rts hact hform => simp [accessEvents, hact, hform, hnone, List.filterMap_cons]
  | brk hact hform => simp [accessEvents, hact, hform, hnone, List.filterMap_cons]
  | rti hact hform => simp [accessEvents, hact, hform, hnone, List.filterMap_cons]

theorem exec_cyc {i : Instr} {s t : State} (h : exec i s = .next t) :
    t.cyc = s.cyc + (i.baseCycles + (if paysExtra i s then 1 else 0) + branchExtra i s) := by
  rw [(exec_extends h).cyc, busTicks_append, busTicks_eq_sum, filterMap_ticked?_accessEvents]
  split
  · simp [busTicks]; omega
  · simp [busTicks]

/-- Settles O13: the events of an instruction are its accesses, with the page-cross tick at most,
and the tick that ends it. -/
theorem everyInstructionChargesItsCycles : Obligations.EveryInstructionChargesItsCycles := by
  intro i s
  obtain ⟨t, ht⟩ := exists_exec_eq_next i s
  refine ⟨t, accessEvents i s, ht, ?_, filterMap_ticked?_accessEvents i s, exec_cyc ht⟩
  rw [exec_bus ht, List.append_assoc]

/-! ### The addresses an instruction stores to -/

@[simp] theorem filterMap_writtenAddr?_resolveReads (m : MemForm) (s : State) :
    (resolveReads m s).filterMap BusEvent.writtenAddr? = [] := by
  cases m <;> rfl

@[simp] theorem filterMap_writtenAddr?_penaltyTicks (m : MemForm) (s : State) :
    (penaltyTicks m s).filterMap BusEvent.writtenAddr? = [] := by
  unfold penaltyTicks
  split <;> rfl

/-- The stored addresses by the action of the mnemonic. -/
theorem storedAddrs_eq (i : Instr) (s : State) : storedAddrs i s = match actionOf i.op with
    | .write _ => [eaOf i s]
    | .rmw _ _ => if i.form = .accumulator then [] else [eaOf i s]
    | .implied _ => (stackEvents i.op s).filterMap BusEvent.writtenAddr?
    | .jsr => [stackAddr s.sp, stackAddr (s.sp - 1)]
    | .brk => [stackAddr s.sp, stackAddr (s.sp - 1), stackAddr (s.sp - 2)]
    | .read _ | .branch _ | .jump | .rts | .rti => [] := by
  have hfit := form_fits i
  unfold storedAddrs
  generalize i.op = o at hfit ⊢
  by_cases hform : i.form = .accumulator
  · rw [hform] at hfit ⊢
    cases o <;> first | rfl | cases hfit
  · simp only [hform, ne_eq, not_false_eq_true, and_true, if_false]
    cases o <;> rfl

/-- The writes among the accesses of an instruction are those to its stored addresses. -/
theorem filterMap_writtenAddr?_accessEvents (i : Instr) (s : State) :
    (accessEvents i s).filterMap BusEvent.writtenAddr? = storedAddrs i s := by
  rw [storedAddrs_eq]
  cases shape i with
  | readImm act v hact hform => simp [accessEvents, hact, hform]
  | readMem act m hact hform => simp [accessEvents, hact, hform]
  | readNone act hact hform => simp [accessEvents, hact, hform]
  | write value m hact hform => simp [accessEvents, hact, hform]
  | rmw new after m hact hform => simp [accessEvents, hact, hform, List.filterMap_cons]
  | acc new after hact hform => simp [accessEvents, hact, hform]
  | implied act hact hform => simp [accessEvents, hact, hform]
  | branch cond d hact hform => simp [accessEvents, hact, hform]
  | jump m hact hform => simp [accessEvents, hact, hform]
  | jsr m hact hform => simp [accessEvents, hact, hform]
  | rts hact hform => simp [accessEvents, hact, hform]
  | brk hact hform => simp [accessEvents, hact, hform, List.filterMap_cons]
  | rti hact hform => simp [accessEvents, hact, hform]

/-- Settles O17: the writes of an instruction are those of its accesses, and memory changes only
where the Bus writes. -/
theorem storesGoOnlyToTheStoredAddresses : Obligations.StoresGoOnlyToTheStoredAddresses := by
  intro i s
  obtain ⟨t, ht⟩ := exists_exec_eq_next i s
  have hnew := exec_extends ht
  have hwrites : (accessEvents i s ++ [BusEvent.tick (i.baseCycles + branchExtra i s)]).filterMap
      BusEvent.writtenAddr? = storedAddrs i s := by
    rw [List.filterMap_append, filterMap_writtenAddr?_accessEvents]
    exact List.append_nil _
  exact ⟨t, _, ht, hnew.bus, hwrites, fun a ha => hnew.frame a (by rwa [hwrites])⟩

/-! ### The accesses of the data forms -/

theorem resolve_bus_drop (m : MemForm) (s : State) :
    (resolve m s).2.bus.drop s.bus.length = resolveReads m s := by
  rw [resolve_state, List.drop_left]

theorem resolveReads_length {m : MemForm} (h : dataForm m = true) (s : State) :
    (resolveReads m s).length =
      if m.mode ∈ [.indexedIndirect, .indirectIndexed, .indirectIndexedWrite] then 2 else 0 := by
  cases m <;> first | rfl | cases h

theorem operandOf_eq_answerAt {i : Instr} {m : MemForm} (hform : i.form = .mem m) (s : State) :
    operandOf i s = s.answerAt (resolveReads m s).length (eaOf i s) := by
  rw [operandOf_of_form_mem hform, eaOf_of_form_mem hform, readOperand_mem]

/-- A reading mnemonic stores nothing. -/
theorem not_stores_of_read {o : Op} {act : Byte → State → State}
    (hact : actionOf o = .read act) :
    o ∉ [Op.sta, .stx, .sty, .uSax] ∧ ¬ (o ∈ storingOps ∨ o ∈ shiftOps) := by
  cases o <;> cases hact <;> decide

theorem mem_stores_of_write {o : Op} {value : State → Byte} (hact : actionOf o = .write value) :
    o ∈ [Op.sta, .stx, .sty, .uSax] := by
  cases o <;> cases hact <;> decide

/-- A read-modify-write mnemonic stores, and is none of the plain stores. -/
theorem stores_of_rmw {o : Op} {new : State → Byte → Byte}
    {after : Byte → Byte → State → State} (hact : actionOf o = .rmw new after) :
    o ∉ [Op.sta, .stx, .sty, .uSax] ∧ (o ∈ storingOps ∨ o ∈ shiftOps) := by
  cases o <;> cases hact <;> decide

theorem op_of_jump {o : Op} (hact : actionOf o = .jump) : o = .jmp := by
  cases o <;> first | rfl | cases hact

theorem op_of_jsr {o : Op} (hact : actionOf o = .jsr) : o = .jsr := by
  cases o <;> first | rfl | cases hact

theorem op_of_rts {o : Op} (hact : actionOf o = .rts) : o = .rts := by
  cases o <;> first | rfl | cases hact

theorem op_of_brk {o : Op} (hact : actionOf o = .brk) : o = .brk := by
  cases o <;> first | rfl | cases hact

theorem op_of_rti {o : Op} (hact : actionOf o = .rti) : o = .rti := by
  cases o <;> first | rfl | cases hact

theorem setRegs_finish_peek (r : Regs) (len cycles : Nat) (s : State) (a : Addr) :
    (finish len cycles (setRegs r s)).peek a = s.peek a := rfl

/-- Settles O25, by the class of the mnemonic: the accesses are those of `exec_bus`, and the byte
written is in memory after the step. -/
theorem accessClassesDriveTheBus : Obligations.AccessClassesDriveTheBus := by
  intro i m s hform hjmp hjsr
  obtain ⟨t, ht⟩ := exists_exec_eq_next i s
  have hbus := exec_bus ht
  rw [resolve_bus_drop, ← penaltyTicks_eq hform]
  have hread (hdata : dataForm m = true) : operandOf i s = operandOf i s ∧ operandOf i s =
      s.answerAt (if m.mode ∈ [.indexedIndirect, .indirectIndexed, .indirectIndexedWrite] then 2
        else 0) (eaOf i s) :=
    ⟨rfl, by rw [operandOf_eq_answerAt hform, resolveReads_length hdata]⟩
  cases shape i with
  | readMem act m' hact hform' hdata =>
    obtain rfl : m' = m := by simpa [hform] using hform'.symm
    obtain ⟨hstore, hmodify⟩ := not_stores_of_read hact
    refine ⟨t, operandOf i s, 0, ht, ?_, fun _ => hread hdata, fun _ h => absurd h hmodify⟩
    rw [hbus, if_neg hstore, if_neg hmodify, branchExtra_eq_zero (by simp [hact])]
    simp [accessEvents, hact, hform]
  | write value m' hact hform' =>
    obtain rfl : m' = m := by simpa [hform] using hform'.symm
    have hstore := mem_stores_of_write hact
    refine ⟨t, 0, value s, ht, ?_, fun h => absurd hstore h, fun hmem _ => ?_⟩
    · rw [hbus, if_pos hstore, branchExtra_eq_zero (by simp [hact])]
      simp [accessEvents, hact, hform]
    · rw [exec_write_mem hact hform, value_effectiveAddress hact] at ht
      cases ht
      exact (memWrite_peek_same _ _ (by rwa [effectiveAddress_mem])).symm
  | rmw new after m' hact hform' hdata =>
    obtain rfl : m' = m := by simpa [hform] using hform'.symm
    obtain ⟨hstore, hmodify⟩ := stores_of_rmw hact
    refine ⟨t, operandOf i s, new s (operandOf i s), ht, ?_, fun _ => hread hdata,
      fun hmem _ => ?_⟩
    · rw [hbus, if_neg hstore, if_pos hmodify, branchExtra_eq_zero (by simp [hact])]
      simp [accessEvents, hact, hform]
    · rw [exec_rmw_mem hact hform, rmw_after_eq_setRegs hact, new_readOperand hact] at ht
      cases ht
      rw [setRegs_finish_peek]
      exact (memWrite_peek_same _ _ (by rwa [readOperand_mem_state])).symm
  | jump m' hact => exact absurd (op_of_jump hact) hjmp
  | jsr m' hact => exact absurd (op_of_jsr hact) hjsr
  | _ => simp_all

/-! ### The bounds of a step -/

/-- A form that pays for page crossings costs at most 5 before the extra cycle. -/
theorem cycles_le_of_paysPageCross :
    ∀ e ∈ registry, paysPageCross e.mode = true → e.cycles ≤ 5 := by
  decide +kernel

/-- The modes that access no data cost 2, stack and exception instructions aside. -/
theorem cycles_eq_two : ∀ e ∈ registry, e.mode ∈ [.immediate, .accumulator, .relative] ∨
    e.op ∈ [.nop, .uNop] ∧ e.mode = .implicit → e.cycles = 2 := by
  decide +kernel

/-- What holds of the mnemonic, mode and cost of every entry of the registry holds of every
instruction. -/
theorem forall_instr_of_forall_registry {P : Op → Mode → Nat → Prop}
    (h : ∀ e ∈ registry, P e.op e.mode e.cycles) (i : Instr) :
    P i.op i.form.mode i.baseCycles := by
  obtain ⟨e, he, hop, hmode, -, hcycles, -⟩ := exists_entry_describes i
  have := h e (lookup_eq_some_iff.mp he).1
  rwa [hop, hmode, hcycles] at this

theorem branchPenalty_le (pc : Addr) (d : Byte) : branchPenalty pc d ≤ 2 := by
  unfold branchPenalty
  split <;> decide

theorem form_of_branch {i : Instr} {cond : Flags → Bool} (hact : actionOf i.op = .branch cond) :
    ∃ d, i.form = .relative d := by
  have hfit := form_fits i
  cases hform : i.form with
  | relative d => exact ⟨d, rfl⟩
  | _ => simp [formFits, hact, hform] at hfit

/-- A taken branch has a relative form, and its extra cycles are at most 2. -/
theorem branchExtra_bound (i : Instr) (s : State) :
    branchExtra i s = 0 ∨ (i.form.mode = .relative ∧ branchExtra i s ≤ 2) := by
  by_cases hbranch : ∃ cond, actionOf i.op = .branch cond
  · obtain ⟨cond, hact⟩ := hbranch
    obtain ⟨d, hform⟩ := form_of_branch hact
    rw [branchExtra_of_branch hact hform, hform]
    split
    · exact .inr ⟨rfl, branchPenalty_le s.pc d⟩
    · exact .inl rfl
  · exact .inl (branchExtra_eq_zero (not_exists.mp hbranch) s)

theorem paysPageCross_of_paysExtra {i : Instr} {s : State} (h : paysExtra i s = true) :
    paysPageCross i.form.mode = true := by
  unfold paysExtra at h
  split at h
  · rw [‹i.form = _›]
    exact (Bool.and_eq_true_iff.mp h).1
  · cases h

theorem baseCycles_eq_two {i : Instr}
    (h : i.form.mode ∈ [.immediate, .accumulator, .relative] ∨
      i.op ∈ [.nop, .uNop] ∧ i.form.mode = .implicit) : i.baseCycles = 2 :=
  forall_instr_of_forall_registry (P := fun o m n => m ∈ [.immediate, .accumulator, .relative] ∨
    o ∈ [.nop, .uNop] ∧ m = .implicit → n = 2) cycles_eq_two i h

/-- An instruction charges 2 to 8 cycles. -/
theorem exec_cyc_range {i : Instr} {s t : State} (h : exec i s = .next t) :
    s.cyc + 2 ≤ t.cyc ∧ t.cyc ≤ s.cyc + 8 := by
  have hcross : paysPageCross i.form.mode = true → i.baseCycles ≤ 5 :=
    forall_instr_of_forall_registry (P := fun _ m n => paysPageCross m = true → n ≤ 5)
      cycles_le_of_paysPageCross i
  have hrange := baseCycles_range i
  rw [exec_cyc h]
  rcases branchExtra_bound i s with hzero | ⟨hrelative, hle⟩
  · cases hpays : paysExtra i s with
    | true =>
      have := hcross (paysPageCross_of_paysExtra hpays)
      simp; omega
    | false => simp; omega
  · have hpays : paysExtra i s = false := by
      by_contra hpays
      have := paysPageCross_of_paysExtra (by simpa using hpays)
      rw [hrelative] at this
      cases this
    have := baseCycles_eq_two (i := i) (.inl (by simp [hrelative]))
    simp [hpays]; omega

/-- A step charges 2 to 8 cycles. -/
theorem step_cyc_range {s t : State} (h : step s = .next t) :
    s.cyc + 2 ≤ t.cyc ∧ t.cyc ≤ s.cyc + 8 := by
  obtain ⟨_, _, _, hstep⟩ | ⟨_, _, vec, nmi, hvec, hstep⟩ | hat := step_cases s
  · cases hstep.symm.trans h
  · cases hstep.symm.trans h
    rw [interruptEntry_spec _ _ hvec]
    simp
  · obtain ⟨-, i, _, hexec, -⟩ | ⟨-, hstep⟩ := step_atInstruction_cases hat
    · have hrange := exec_cyc_range (hexec.symm.trans h)
      rwa [afterFetch, openBoundary_cyc] at hrange
    · cases hstep.symm.trans h

/-- Settles O59: what a step adds to the history is what it charges, which `step_cyc_range` bounds,
so it is not empty. -/
theorem historyOnlyGrows : Obligations.HistoryOnlyGrows := by
  intro s t h
  obtain ⟨new, hbus, hcyc, -⟩ := step_extends_bus h
  obtain ⟨hlow, hhigh⟩ := step_cyc_range h
  refine ⟨new, hbus, ?_, hcyc, hlow, hhigh⟩
  rintro rfl
  simp [busTicks] at hcyc
  omega

/-! ### Runs -/

theorem budgetReached_iff {n : Nat} {s : State} :
    budgetReached (some n) s = true ↔ n ≤ s.cyc := by
  simp [budgetReached]

/-- A run takes no step when the budget is reached. -/
theorem runLoop_of_reached {n : Nat} {s : State} (h : n ≤ s.cyc) (fuel : Nat) :
    runLoop (some n) fuel s = .next s := by
  cases fuel with
  | zero => rfl
  | succ fuel => rw [runLoop, if_pos (budgetReached_iff.mpr h)]

/-- A run short of its budget goes on with a step. -/
theorem runLoop_succ_eq_next {n fuel : Nat} {s t : State} (hlow : s.cyc < n)
    (h : runLoop (some n) (fuel + 1) s = .next t) :
    ∃ u, step s = .next u ∧ runLoop (some n) fuel u = .next t := by
  rw [runLoop, if_neg (by rw [budgetReached_iff]; omega)] at h
  split at h
  · exact ⟨_, ‹_›, h⟩
  · cases h
  · cases h

/-- Settles O60, by induction on the fuel: each step short of the budget charges 2 to 8 cycles. -/
theorem runBudgetStopsAtABoundary : Obligations.RunBudgetStopsAtABoundary := by
  intro n fuel s
  refine ⟨fun h => runLoop_of_reached h fuel, fun t => ?_⟩
  induction fuel generalizing s with
  | zero => omega
  | succ fuel ih =>
    intro hlow hfuel hrun
    obtain ⟨u, hstep, hrest⟩ := runLoop_succ_eq_next hlow hrun
    have hrange := step_cyc_range hstep
    by_cases hreached : n ≤ u.cyc
    · rw [runLoop_of_reached hreached] at hrest
      cases hrest
      omega
    · exact ih u (by omega) (by omega) hrest

end Sys2Proof.Machine
end

section
/-! Which registers and flags an instruction can change (10_state.md R10, R16 to R20), and where it
leaves the program counter (40_step_and_addressing.md R90). -/

namespace Sys2Proof.Machine

/-- The effect of an action on the registers, beside the program counter and an accumulator operand:
`v` and `r` stand for the byte read or pulled, the byte made, and the stack pointer left. -/
def Action.effect : Action → Byte → Byte → State → State
  | .read act, v, _, s => act v s
  | .rmw _ after, v, r, s => after v r s
  | .implied act, _, _, s => act s
  | .jsr, _, r, s | .rts, _, r, s => { s with sp := r }
  | .brk, _, r, s => { s with sp := r, p := { s.p with i := true } }
  | .rti, v, r, s => { s with sp := r, p := Flags.unpack v }
  | .write _, _, _, s | .branch _, _, _, s | .jump, _, _, s => s

/-- The part `f` of the registers is left alone by the effect of an action. -/
def Action.Keeps {α : Type} (f : Regs → α) (act : Action) : Prop :=
  ∀ v r s, f (act.effect v r s).regs = f s.regs

theorem finish_regs (len cycles : Nat) (s : State) : (finish len cycles s).regs =
    { s.regs with pc := s.pc + BitVec.ofNat 16 len } := rfl

theorem finishAt_regs (target : Addr) (cycles : Nat) (s : State) :
    (finishAt target cycles s).regs = { s.regs with pc := target } := rfl

theorem memWrite_regs (a : Addr) (v : Byte) (s : State) : (memWrite a v s).regs = s.regs := rfl

/-- What an action keeps its instruction keeps: beside the action's effect there is the program
counter, and `A` where the form is the accumulator. -/
theorem exec_keeps {α : Type} {f : Regs → α} {i : Instr} {s t : State}
    (hpc : ∀ (r : Regs) (pc : Addr), f { r with pc := pc } = f r)
    (hacc : i.form = .accumulator → ∀ (r : Regs) (a : Byte), f { r with a := a } = f r)
    (hkeeps : (actionOf i.op).Keeps f) (h : exec i s = .next t) : f t.regs = f s.regs := by
  cases shape i with
  | readImm act v hact hform =>
    rw [exec_read_imm hact hform] at h
    cases h
    rw [hact] at hkeeps
    exact (hpc _ _).trans (hkeeps v 0 s)
  | readMem act m hact hform =>
    rw [exec_read_mem hact hform] at h
    cases h
    rw [hact] at hkeeps
    exact (hpc _ _).trans ((hkeeps _ 0 _).trans (congrArg f (readOperand_mem_regs m s)))
  | readNone act hact hform =>
    rw [exec_read_none hact hform] at h
    cases h
    rw [finish_regs, hpc]
  | write value m hact hform =>
    rw [exec_write_mem hact hform] at h
    cases h
    rw [finish_regs, hpc, memWrite_regs, effectiveAddress_regs]
  | rmw new after m hact hform =>
    rw [exec_rmw_mem hact hform] at h
    cases h
    rw [hact] at hkeeps
    change ∀ v r u, f (after v r u).regs = f u.regs at hkeeps
    rw [finish_regs, hpc, hkeeps, memWrite_regs, readOperand_mem_regs]
  | acc new after hact hform =>
    rw [exec_acc hact hform] at h
    cases h
    rw [hact] at hkeeps
    change ∀ v r u, f (after v r u).regs = f u.regs at hkeeps
    rw [finish_regs, hpc, hkeeps]
    exact hacc hform s.regs _
  | implied act hact hform =>
    rw [exec_implied hact hform] at h
    cases h
    rw [hact] at hkeeps
    exact (hpc _ _).trans (hkeeps 0 0 s)
  | branch cond d hact hform =>
    rw [exec_branch hact hform] at h
    split at h <;> cases h
    · rw [finishAt_regs, hpc]
    · rw [finish_regs, hpc]
  | jump m hact hform =>
    rw [exec_jump hact hform] at h
    cases h
    rw [finishAt_regs, hpc, effectiveAddress_regs]
  | jsr m hact hform =>
    rw [exec_jsr hact hform, pushAddr_spec] at h
    cases h
    rw [hact] at hkeeps
    refine (hpc _ _).trans ((hkeeps 0 _ (effectiveAddress m s).2).trans ?_)
    rw [effectiveAddress_regs]
  | rts hact hform =>
    rw [exec_rts hact, pullAddr_spec] at h
    cases h
    rw [hact] at hkeeps
    exact (hpc _ _).trans (hkeeps 0 _ s)
  | brk hact hform =>
    rw [exec_brk_action hact, takeException_spec _ _ _ _ (by decide)] at h
    cases h
    rw [hact] at hkeeps
    exact (hpc { s.regs with sp := s.sp - 3, p := { s.p with i := true } } _).trans (hkeeps 0 _ s)
  | rti hact hform =>
    rw [exec_rti hact, returnFromException_spec] at h
    cases h
    rw [hact] at hkeeps
    exact (hpc { s.regs with sp := s.sp + 3, p := _ } _).trans (hkeeps _ _ s)

/-! ### Registers -/

theorem mem_shiftOps_of_form_accumulator {i : Instr} (h : i.form = .accumulator) :
    i.op ∈ shiftOps := by
  cases shape i with
  | acc new after hact hform hop => exact hop
  | _ => simp_all

theorem keeps_a {o : Op} (h : o ∉ [Op.lda, .pla, .txa, .tya, .and, .ora, .eor, .adc, .sbc, .uLax,
    .uSbc, .uIsb, .uSlo, .uRla, .uSre, .uRra]) : (actionOf o).Keeps Regs.a := by
  cases o
  case lda | pla | txa | tya | and | ora | eor | adc | sbc | uLax | uSbc | uIsb | uSlo | uRla | uSre
    | uRra => simp at h
  all_goals exact fun _ _ _ => rfl

theorem keeps_x {o : Op} (h : o ∉ [Op.ldx, .tax, .tsx, .inx, .dex, .uLax]) :
    (actionOf o).Keeps Regs.x := by
  cases o
  case ldx | tax | tsx | inx | dex | uLax => simp at h
  all_goals exact fun _ _ _ => rfl

theorem keeps_y {o : Op} (h : o ∉ [Op.ldy, .tay, .iny, .dey]) : (actionOf o).Keeps Regs.y := by
  cases o
  case ldy | tay | iny | dey => simp at h
  all_goals exact fun _ _ _ => rfl

theorem keeps_sp {o : Op} (h : o ∉ [Op.txs, .pha, .php, .pla, .plp, .jsr, .rts, .brk, .rti]) :
    (actionOf o).Keeps Regs.sp := by
  cases o
  case txs | pha | php | pla | plp | jsr | rts | brk | rti => simp at h
  all_goals exact fun _ _ _ => rfl

/-- Settles O15: an action that is not listed keeps the register, and only the shifts have an
accumulator form. -/
theorem registersWrittenOnlyByListed : Obligations.RegistersWrittenOnlyByListed := by
  intro i s t h
  refine ⟨fun ha => ?a, fun hx => ?x, fun hy => ?y, fun hsp => ?sp⟩
  case a =>
    by_contra hlist
    rw [not_or, not_and] at hlist
    obtain ⟨hop, hshift⟩ := hlist
    exact ha (exec_keeps (f := Regs.a) (fun _ _ => rfl)
      (fun hacc => absurd hacc (hshift (mem_shiftOps_of_form_accumulator hacc))) (keeps_a hop) h)
  case x =>
    by_contra hop
    exact hx (exec_keeps (f := Regs.x) (fun _ _ => rfl) (fun _ _ _ => rfl) (keeps_x hop) h)
  case y =>
    by_contra hop
    exact hy (exec_keeps (f := Regs.y) (fun _ _ => rfl) (fun _ _ _ => rfl) (keeps_y hop) h)
  case sp =>
    by_contra hop
    exact hsp (exec_keeps (f := Regs.sp) (fun _ _ => rfl) (fun _ _ _ => rfl) (keeps_sp hop) h)

/-! ### Flags -/

theorem keeps_c {o : Op} (h : o ∉ [Op.adc, .sbc, .uSbc, .asl, .lsr, .rol, .ror, .cmp, .cpx, .cpy,
    .clc, .sec, .plp, .rti, .uDcp, .uIsb, .uSlo, .uRla, .uSre, .uRra]) :
    (actionOf o).Keeps (fun r => r.p.c) := by
  cases o
  case adc | sbc | uSbc | asl | lsr | rol | ror | cmp | cpx | cpy | clc | sec | plp | rti | uDcp
    | uIsb | uSlo | uRla | uSre | uRra => simp at h
  all_goals exact fun _ _ _ => rfl

theorem keeps_d {o : Op} (h : o ∉ [Op.sed, .cld, .plp, .rti]) :
    (actionOf o).Keeps (fun r => r.p.d) := by
  cases o
  case sed | cld | plp | rti => simp at h
  all_goals exact fun _ _ _ => rfl

theorem keeps_i {o : Op} (h : o ∉ [Op.sei, .cli, .plp, .rti, .brk]) :
    (actionOf o).Keeps (fun r => r.p.i) := by
  cases o
  case sei | cli | plp | rti | brk => simp at h
  all_goals exact fun _ _ _ => rfl

theorem keeps_v {o : Op} (h : o ∉ [Op.adc, .sbc, .uSbc, .uIsb, .uRra, .bit, .clv, .plp, .rti]) :
    (actionOf o).Keeps (fun r => r.p.v) := by
  cases o
  case adc | sbc | uSbc | uIsb | uRra | bit | clv | plp | rti => simp at h
  all_goals exact fun _ _ _ => rfl

theorem keeps_zn {o : Op} (h : o ∉ [Op.and, .ora, .eor, .adc, .sbc, .inc, .dec, .inx, .iny, .dex,
    .dey, .asl, .lsr, .rol, .ror, .lda, .ldx, .ldy, .tax, .tay, .txa, .tya, .tsx, .pla, .cmp, .cpx,
    .cpy, .uLax, .uSbc, .uDcp, .uIsb, .uSlo, .uRla, .uSre, .uRra, .bit, .plp, .rti]) :
    (actionOf o).Keeps (fun r => (r.p.z, r.p.n)) := by
  cases o
  case and | ora | eor | adc | sbc | inc | dec | inx | iny | dex | dey | asl | lsr | rol | ror | lda
    | ldx | ldy | tax | tay | txa | tya | tsx | pla | cmp | cpx | cpy | uLax | uSbc | uDcp | uIsb
    | uSlo | uRla | uSre | uRra | bit | plp | rti => simp at h
  all_goals exact fun _ _ _ => rfl

/-- What an action keeps of the flags its instruction keeps. -/
theorem exec_keeps_flags {α : Type} {f : Flags → α} {i : Instr} {s t : State}
    (hkeeps : (actionOf i.op).Keeps (fun r => f r.p)) (h : exec i s = .next t) : f t.p = f s.p :=
  exec_keeps (f := fun r => f r.p) (fun _ _ => rfl) (fun _ _ _ => rfl) hkeeps h

/-- Settles O16: an action that is not listed keeps the flag. -/
theorem flagsWrittenOnlyByListed : Obligations.FlagsWrittenOnlyByListed := by
  intro i s t h
  refine ⟨fun hc => ?c, fun hd => ?d, fun hi => ?i, fun hv => ?v, fun hzn => ?zn⟩
  case c =>
    by_contra hop
    exact hc (exec_keeps_flags (keeps_c hop) h)
  case d =>
    by_contra hop
    exact hd (exec_keeps_flags (keeps_d hop) h)
  case i =>
    by_contra hop
    exact hi (exec_keeps_flags (keeps_i hop) h)
  case v =>
    by_contra hop
    exact hv (exec_keeps_flags (keeps_v hop) h)
  case zn =>
    by_contra hop
    obtain ⟨hz, hn⟩ := Prod.ext_iff.mp
      (exec_keeps_flags (f := fun p => (p.z, p.n)) (keeps_zn hop) h)
    exact hzn.elim (absurd hz) (absurd hn)

/-! ### The program counter -/

theorem keeps_pc (o : Op) : (actionOf o).Keeps Regs.pc := by
  cases o <;> exact fun _ _ _ => rfl

/-- Settles O14: an instruction that ends by `finish` goes on after itself, its action leaving the
program counter alone. -/
theorem programCounterAdvances : Obligations.ProgramCounterAdvances := by
  intro i s hop htaken
  have hpc := keeps_pc i.op
  cases shape i with
  | readImm act v hact hform =>
    rw [hact] at hpc
    exact ⟨_, exec_read_imm hact hform s, congrArg (· + _) (hpc v 0 s)⟩
  | readMem act m hact hform =>
    rw [hact] at hpc
    exact ⟨_, exec_read_mem hact hform s, congrArg (· + _)
      ((hpc _ 0 _).trans (congrArg Regs.pc (readOperand_mem_regs m s)))⟩
  | readNone act hact hform => exact ⟨_, exec_read_none hact hform s, rfl⟩
  | write value m hact hform =>
    exact ⟨_, exec_write_mem hact hform s, congrArg (· + _) (effectiveAddress_pc m s)⟩
  | rmw new after m hact hform =>
    rw [hact] at hpc
    exact ⟨_, exec_rmw_mem hact hform s, congrArg (· + _)
      ((hpc _ _ _).trans (congrArg Regs.pc (readOperand_mem_regs m s)))⟩
  | acc new after hact hform =>
    rw [hact] at hpc
    exact ⟨_, exec_acc hact hform s, congrArg (· + _) (hpc _ _ _)⟩
  | implied act hact hform =>
    rw [hact] at hpc
    exact ⟨_, exec_implied hact hform s, congrArg (· + _) (hpc 0 0 s)⟩
  | branch cond d hact hform =>
    rw [branchTaken_eq_cond hact] at htaken
    exact ⟨_, by rw [exec_branch hact hform, htaken]; rfl, rfl⟩
  | jump m hact => simp [op_of_jump hact] at hop
  | jsr m hact => simp [op_of_jsr hact] at hop
  | rts hact => simp [op_of_rts hact] at hop
  | brk hact => simp [op_of_brk hact] at hop
  | rti hact => simp [op_of_rti hact] at hop

end Sys2Proof.Machine
end

section
/-! What no instruction depends on: the decimal flag (10_state.md R17), the cycle counter and the
history of the Bus (10_state.md R23). Each is a change of the state that the operations of the
machine pass through. -/

namespace Sys2Proof.Machine

/-! ### Changes the operations of the machine pass through -/

/-- The change `f` of a state touches no register an operand is taken from, and the operations on
the Bus and on `A`, `SP` and `PC` commute with it. -/
structure PassesThrough (f : State → State) : Prop where
  a : ∀ s, (f s).a = s.a
  x : ∀ s, (f s).x = s.x
  y : ∀ s, (f s).y = s.y
  sp : ∀ s, (f s).sp = s.sp
  pc : ∀ s, (f s).pc = s.pc
  setA : ∀ (v : Byte) (s : State), { f s with a := v } = f { s with a := v }
  setSp : ∀ (v : Byte) (s : State), { f s with sp := v } = f { s with sp := v }
  setPc : ∀ (v : Addr) (s : State), { f s with pc := v } = f { s with pc := v }
  read : ∀ k s, memRead k (f s) = ((memRead k s).1, f (memRead k s).2)
  write : ∀ k v s, memWrite k v (f s) = f (memWrite k v s)
  ticks : ∀ n s, tick n (f s) = f (tick n s)

namespace PassesThrough

variable {f : State → State} (hf : PassesThrough f)
include hf

theorem readPair (lo hi : Addr) (s : State) :
    readPair lo hi (f s) = ((readPair lo hi s).1, f (readPair lo hi s).2) := by
  simp only [Machine.readPair, hf.read]

theorem resolve (m : MemForm) (s : State) :
    resolve m (f s) = ((resolve m s).1, f (resolve m s).2) := by
  cases m <;>
    simp only [Machine.resolve, read16Wrap, read16ZP, hf.readPair, hf.x, hf.y]

theorem effectiveAddress (m : MemForm) (s : State) :
    effectiveAddress m (f s) = ((effectiveAddress m s).1, f (effectiveAddress m s).2) := by
  simp only [Machine.effectiveAddress, hf.resolve]
  split
  · rw [hf.ticks]
  · rfl

theorem readOperand_mem (m : MemForm) (s : State) :
    readOperand (.mem m) (f s) = ((readOperand (.mem m) s).1, f (readOperand (.mem m) s).2) := by
  simp only [Machine.readOperand, hf.effectiveAddress, hf.read]

theorem finish (len cycles : Nat) (s : State) :
    finish len cycles (f s) = f (finish len cycles s) := by
  simp only [Machine.finish, hf.pc, hf.setPc, hf.ticks]

theorem finishAt (target : Addr) (cycles : Nat) (s : State) :
    finishAt target cycles (f s) = f (finishAt target cycles s) := by
  simp only [Machine.finishAt, hf.setPc, hf.ticks]

theorem push (v : Byte) (s : State) : push v (f s) = f (push v s) := by
  simp only [Machine.push, hf.sp, hf.write, hf.setSp]

theorem pull (s : State) : pull (f s) = ((pull s).1, f (pull s).2) := by
  simp only [Machine.pull, hf.sp, hf.setSp, hf.read]

theorem pushAddr (a : Addr) (s : State) : pushAddr a (f s) = f (pushAddr a s) := by
  simp only [Machine.pushAddr, hf.push]

theorem pullAddr (s : State) : pullAddr (f s) = ((pullAddr s).1, f (pullAddr s).2) := by
  simp only [Machine.pullAddr, hf.pull]

end PassesThrough

/-- The effect of an action commutes with the change `f`. -/
def Action.CommutesWith (f : State → State) : Action → Prop
  | .read act => ∀ v s, act v (f s) = f (act v s)
  | .write value => ∀ s, value (f s) = value s
  | .rmw new after =>
    (∀ s v, new (f s) v = new s v) ∧ ∀ v r s, after v r (f s) = f (after v r s)
  | .implied act => ∀ s, act (f s) = f (act s)
  | .branch cond => ∀ s, cond (f s).p = cond s.p
  | .brk => ∀ vector ret s,
    takeException vector ret true (f s) = f (takeException vector ret true s)
  | .rti => ∀ s, returnFromException (f s) = f (returnFromException s)
  | .jump | .jsr | .rts => True

/-- An instruction whose action commutes with a change the machine passes through does the same
under that change. -/
theorem exec_commutes {f : State → State} (hf : PassesThrough f) {i : Instr} {s t : State}
    (hcomm : (actionOf i.op).CommutesWith f) (h : exec i s = .next t) :
    exec i (f s) = .next (f t) := by
  cases shape i with
  | readImm act v hact hform =>
    rw [hact] at hcomm
    rw [exec_read_imm hact hform] at h ⊢
    cases h
    rw [hcomm, hf.finish]
  | readMem act m hact hform =>
    rw [hact] at hcomm
    rw [exec_read_mem hact hform, operandOf_of_form_mem hform] at h ⊢
    cases h
    rw [hf.readOperand_mem, hcomm, hf.finish]
  | readNone act hact hform =>
    rw [exec_read_none hact hform] at h ⊢
    cases h
    rw [hf.finish]
  | write value m hact hform =>
    rw [hact] at hcomm
    rw [exec_write_mem hact hform, eaOf_of_form_mem hform] at h ⊢
    cases h
    rw [hf.effectiveAddress, hcomm, hf.write, hf.finish]
  | rmw new after m hact hform =>
    rw [hact] at hcomm
    obtain ⟨hnew, hafter⟩ := hcomm
    rw [exec_rmw_mem hact hform, eaOf_of_form_mem hform, operandOf_of_form_mem hform] at h ⊢
    cases h
    rw [hf.readOperand_mem, hf.effectiveAddress, hnew, hf.write, hafter, hf.finish]
  | acc new after hact hform =>
    rw [hact] at hcomm
    obtain ⟨hnew, hafter⟩ := hcomm
    rw [exec_acc hact hform] at h ⊢
    cases h
    rw [hf.a, hnew, hf.setA, hafter, hf.finish]
  | implied act hact hform =>
    rw [hact] at hcomm
    rw [exec_implied hact hform] at h ⊢
    cases h
    rw [hcomm, hf.finish]
  | branch cond d hact hform =>
    rw [hact] at hcomm
    rw [exec_branch hact hform] at h ⊢
    rw [hcomm, hf.pc]
    split at h <;> cases h
    · rw [if_pos ‹_›, hf.finishAt]
    · rw [if_neg ‹_›, hf.finish]
  | jump m hact hform =>
    rw [exec_jump hact hform, eaOf_of_form_mem hform] at h ⊢
    cases h
    rw [hf.effectiveAddress, hf.finishAt]
  | jsr m hact hform =>
    rw [exec_jsr hact hform, eaOf_of_form_mem hform] at h ⊢
    cases h
    rw [hf.effectiveAddress, hf.pc, hf.pushAddr, hf.finishAt]
  | rts hact =>
    rw [exec_rts hact] at h ⊢
    cases h
    rw [hf.pullAddr, hf.finishAt]
  | brk hact =>
    rw [hact] at hcomm
    rw [exec_brk_action hact] at h ⊢
    cases h
    rw [hf.pc, hcomm, hf.ticks]
  | rti hact =>
    rw [hact] at hcomm
    rw [exec_rti hact] at h ⊢
    cases h
    rw [hcomm, hf.ticks]

/-! ### The decimal flag -/

/-- A state with its decimal flag replaced. -/
def withDecimal (d : Bool) (s : State) : State := { s with p := { s.p with d := d } }

theorem withDecimal_passesThrough (d : Bool) : PassesThrough (withDecimal d) := by
  constructor <;> intros <;> rfl

/-- No action looks at the decimal flag but those that push, pull or write it. -/
theorem action_commutesWith_withDecimal (d : Bool) {o : Op}
    (h : o ∉ [Op.php, .brk, .plp, .rti, .sed, .cld]) :
    (actionOf o).CommutesWith (withDecimal d) := by
  cases o
  case php | brk | plp | rti | sed | cld => simp at h
  case jmp | jsr | rts => exact trivial
  all_goals first
    | exact fun _ => rfl
    | exact fun _ _ => rfl
    | exact ⟨fun _ _ => rfl, fun _ _ _ => rfl⟩

/-- Settles O18: the machine passes a change of the decimal flag through. -/
theorem decimalFlagIsInert : Obligations.DecimalFlagIsInert := fun _ _ _ d hop h =>
  exec_commutes (withDecimal_passesThrough d) (action_commutesWith_withDecimal d hop) h

/-! ### The cycle counter and the history -/

/-- A state with `n` cycles and the events `es` before those it has. -/
def prepend (n : Nat) (es : List BusEvent) (s : State) : State :=
  { s with cyc := n + s.cyc, bus := es ++ s.bus }

section
variable (n : Nat) (es : List BusEvent)

theorem prepend_passesThrough : PassesThrough (prepend n es) where
  a _ := rfl
  x _ := rfl
  y _ := rfl
  sp _ := rfl
  pc _ := rfl
  setA _ _ := rfl
  setSp _ _ := rfl
  setPc _ _ := rfl
  read k s := by simp [memRead, prepend, State.busAnswer, State.peek]
  write k v s := by simp [memWrite, prepend]
  ticks n s := by simp [tick, prepend, Nat.add_assoc]

theorem prepend_setFlags (p : Flags) (s : State) :
    { prepend n es s with p := p } = prepend n es { s with p := p } := rfl

theorem prepend_p (s : State) : (prepend n es s).p = s.p := rfl

theorem takeException_prepend (vector ret : Addr) (brk : Bool) (s : State) :
    takeException vector ret brk (prepend n es s) =
      prepend n es (takeException vector ret brk s) := by
  have hf := prepend_passesThrough n es
  simp only [takeException, hf.pushAddr, hf.push, read16, prepend_p, prepend_setFlags, hf.readPair]
  rfl

theorem returnFromException_prepend (s : State) :
    returnFromException (prepend n es s) = prepend n es (returnFromException s) := by
  have hf := prepend_passesThrough n es
  simp only [returnFromException, hf.pull, prepend_setFlags, hf.pullAddr, hf.setPc]

theorem interruptEntry_prepend (vector : Addr) (s : State) :
    interruptEntry vector (prepend n es s) = prepend n es (interruptEntry vector s) := by
  have hf := prepend_passesThrough n es
  rw [interruptEntry, hf.pc, takeException_prepend, hf.ticks]
  rfl

/-- No action looks at the cycle counter or the history. -/
theorem action_commutesWith_prepend (o : Op) : (actionOf o).CommutesWith (prepend n es) := by
  have hf := prepend_passesThrough n es
  cases o
  case pha => exact fun s => hf.push s.a s
  case php => exact fun s => hf.push (s.p.pack true) s
  case pla => exact fun s => by simp only [pullA, hf.pull]; rfl
  case plp => exact fun s => by simp only [pullP, hf.pull]; rfl
  case brk => exact fun vector ret s => takeException_prepend n es vector ret true s
  case rti => exact returnFromException_prepend n es
  case jmp | jsr | rts => exact trivial
  all_goals first
    | exact fun _ => rfl
    | exact fun _ _ => rfl
    | exact ⟨fun _ _ => rfl, fun _ _ _ => rfl⟩

theorem applyMove_prepend (s : State) (m : EnvMove) :
    applyMove (prepend n es s) m = prepend n es (applyMove s m) := by
  cases m <;> rfl

theorem openBoundary_prepend (s : State) :
    openBoundary (prepend n es s) = prepend n es (openBoundary s) :=
  List.foldl_hom (prepend n es) (init := { s with schedule := s.schedule.tail })
    (applyMove_prepend n es)

theorem afterFetch_prepend (i : Instr) (s : State) :
    afterFetch i (prepend n es s) = prepend n es (afterFetch i s) := by
  rw [afterFetch, prepend, List.append_assoc]
  rfl

theorem instructionStep_prepend {s t : State} (h : instructionStep s = .next t) :
    instructionStep (prepend n es s) = .next (prepend n es t) := by
  by_cases hb : s.answerAt 0 s.pc ∈ absentBytes
  · cases (instructionStep_of_absent hb).symm.trans h
  · obtain ⟨i, rest, hdecode⟩ := exists_decode_of_not_absent hb
    have hdecode' : decode (fetchedBytes (prepend n es s)) = .ok i rest := hdecode
    rw [instructionStep_of_decode hdecode] at h
    rw [instructionStep_of_decode hdecode', afterFetch_prepend]
    exact exec_commutes (prepend_passesThrough n es) (action_commutesWith_prepend n es i.op) h

theorem boundaryStep_prepend {s t : State} (h : boundaryStep s = .next t) :
    boundaryStep (prepend n es s) = .next (prepend n es t) := by
  have hnmi : (prepend n es s).nmiPending = s.nmiPending := rfl
  have hirq : ((prepend n es s).irqLine && !(prepend n es s).p.i) = (s.irqLine && !s.p.i) := rfl
  have hclear : ({ prepend n es s with nmiPending := false } : State) =
    prepend n es { s with nmiPending := false } := rfl
  unfold boundaryStep at h ⊢
  rw [hnmi, hirq, hclear]
  by_cases hn : s.nmiPending = true
  · rw [if_pos hn] at h ⊢
    cases h
    rw [interruptEntry_prepend]
  · rw [if_neg hn] at h ⊢
    by_cases hi : (s.irqLine && !s.p.i) = true
    · rw [if_pos hi] at h ⊢
      cases h
      rw [interruptEntry_prepend]
    · rw [if_neg hi] at h ⊢
      exact instructionStep_prepend n es h

/-- A step after other cycles and other events is the same step. -/
theorem step_prepend {s t : State} (h : step s = .next t) :
    step (prepend n es s) = .next (prepend n es t) := by
  have hrun : s.run = .idle := (step_moves h).1
  rw [step_of_idle hrun] at h
  rw [step_of_idle (s := prepend n es s) hrun, openBoundary_prepend]
  exact boundaryStep_prepend n es h

end

/-- Whether an Idle core has a next step does not depend on the counter or the history. -/
theorem exists_step_of_prepend {n : Nat} {es : List BusEvent} {s t : State}
    (h : step (prepend n es s) = .next t) : ∃ u, step s = .next u := by
  have hrun : (prepend n es s).run = .idle := (step_moves h).1
  have hgoes := ((stepStopsOnlyOnAbsentOpcode (prepend n es s)).2.2.2 hrun).mp ⟨t, h⟩
  rw [openBoundary_prepend] at hgoes
  exact ((stepStopsOnlyOnAbsentOpcode s).2.2.2 hrun).mpr hgoes

/-- Settles O19: the step from the same state with an empty history and no cycles, before which
either counter and either history are put. -/
theorem cycleCounterIsInert : Obligations.CycleCounterIsInert := by
  intro s t cyc bus h
  have hput (n : Nat) (es : List BusEvent) : ({ s with cyc := n, bus := es } : State) =
      prepend n es { s with cyc := 0, bus := [] } := by simp [prepend]
  have hs := hput s.cyc s.bus
  change s = _ at hs
  rw [hs] at h
  obtain ⟨u, hu⟩ := exists_step_of_prepend h
  obtain rfl : t = prepend s.cyc s.bus u := by simpa [step_prepend _ _ hu] using h.symm
  exact ⟨u.cyc, u.bus, rfl, rfl, by rw [hput]; exact step_prepend cyc bus hu⟩

end Sys2Proof.Machine
end

section
/-! The arithmetic of the flags as facts about numbers: addition with carry, subtraction with
borrow, comparison, and the shifts (42_arithmetic.md R110 to R112, 43_shift_rotate.md R121 to R124,
45_compare.md R145). -/

namespace Sys2Proof.Machine

/-! ### Addition and subtraction -/

theorem bit7_addOverflow (a m r : Byte) : ((~~~(a ^^^ m)) &&& (a ^^^ r))[7] =
    (decide (128 ≤ a.toNat) == decide (128 ≤ m.toNat) &&
      decide (128 ≤ a.toNat) != decide (128 ≤ r.toNat)) := by
  simp only [BitVec.getElem_and, BitVec.getElem_not, BitVec.getElem_xor, bit7_eq]
  grind

/-- The bit formula of the overflow says that the signed sum does not fit a byte. -/
theorem addOverflow_eq (a m : Byte) (c : Bool) : addOverflow a m c =
    outOfSignedRange (signedByte a + signedByte m + (c.toNat : Int)) := by
  have ha := a.isLt
  have hm := m.isLt
  have hc := c.toNat_le
  rw [addOverflow, bit7_addOverflow]
  unfold outOfSignedRange signedByte addResult
  rw [BitVec.toNat_ofNat, Bool.eq_iff_iff]
  simp only [Bool.and_eq_true, beq_iff_eq, bne_iff_ne, ne_eq, decide_eq_decide, Bool.or_eq_true,
    decide_eq_true_eq]
  split <;> split <;> omega

/-- The flags of addition with carry, read off the numbers. -/
theorem Flags.afterAdd_eq (a m : Byte) (f : Flags) : f.afterAdd a m =
    znOf (addResult a m f.c) { f with
      c := decide (255 < a.toNat + m.toNat + f.c.toNat)
      v := outOfSignedRange (signedByte a + signedByte m + (f.c.toNat : Int)) } := by
  rw [Flags.afterAdd, Flags.setZN_eq, addOverflow_eq]
  rfl

theorem toNat_complement (m : Byte) : (m ^^^ 0xFF).toNat = 255 - m.toNat := by
  revert m
  decide +kernel

theorem signedByte_complement (m : Byte) : signedByte (m ^^^ 0xFF) = -1 - signedByte m := by
  revert m
  decide +kernel

/-- Adding the complement with the carry subtracts with its opposite as the borrow. -/
theorem addResult_complement (a m : Byte) (c : Bool) :
    addResult a (m ^^^ 0xFF) c = a - m - BitVec.ofNat 8 (1 - c.toNat) := by
  have hm := m.isLt
  rw [addResult, toNat_complement]
  cases c <;> simp <;> bv_omega

theorem carry_complement (a m : Byte) (c : Bool) :
    decide (255 < a.toNat + (m ^^^ 0xFF).toNat + c.toNat) =
      decide (m.toNat + (1 - c.toNat) ≤ a.toNat) := by
  have hm := m.isLt
  have hc := c.toNat_le
  rw [toNat_complement, decide_eq_decide]
  omega

theorem signed_complement (a m : Byte) (c : Bool) :
    signedByte a + signedByte (m ^^^ 0xFF) + (c.toNat : Int) =
      signedByte a - signedByte m - ((1 - c.toNat : Nat) : Int) := by
  have hc := c.toNat_le
  rw [signedByte_complement]
  omega

/-! ### Comparison -/

theorem Flags.afterCompare_eq (reg m : Byte) (f : Flags) : f.afterCompare reg m = { f with
    c := decide (m.toNat ≤ reg.toNat)
    z := decide (reg = m)
    n := decide (128 ≤ (reg.toNat + (256 - m.toNat)) % 256) } := by
  have hm := m.isLt
  have hdiff : (reg - m).toNat = (reg.toNat + (256 - m.toNat)) % 256 := by
    rw [BitVec.toNat_sub, Nat.add_comm]
  have hzero : ((reg - m) == 0) = decide (reg = m) := by
    rw [Bool.eq_iff_iff]
    simp [BitVec.sub_eq_iff_eq_add]
  rw [Flags.afterCompare, Flags.setZN, bit7_eq, hdiff, hzero]

/-! ### Shifts -/

theorem aslByte_eq (c : Bool) (s : State) (v : Byte) : aslByte s v = (shiftSpec .asl c v).1 := by
  have h : ∀ v : Byte, v <<< 1 = BitVec.ofNat 8 (2 * v.toNat) := by decide +kernel
  exact h v

theorem lsrByte_eq (c : Bool) (s : State) (v : Byte) : lsrByte s v = (shiftSpec .lsr c v).1 := by
  have h : ∀ v : Byte, v >>> 1 = BitVec.ofNat 8 (v.toNat / 2) := by decide +kernel
  exact h v

theorem rolByte_eq (s : State) (v : Byte) : rolByte s v = (shiftSpec .rol s.p.c v).1 := by
  have h : ∀ (v : Byte) (c : Bool),
      (v <<< 1) ||| flagByte c = BitVec.ofNat 8 (2 * v.toNat + c.toNat) := by decide +kernel
  exact h v s.p.c

theorem rorByte_eq (s : State) (v : Byte) : rorByte s v = (shiftSpec .ror s.p.c v).1 := by
  have h : ∀ (v : Byte) (c : Bool),
      (v >>> 1) ||| (flagByte c <<< 7) = BitVec.ofNat 8 (v.toNat / 2 + 128 * c.toNat) := by
    decide +kernel
  exact h v s.p.c

end Sys2Proof.Machine
end

section
/-! The reading, storing and read-modify-write families: the registers, flags and memory each
instruction leaves (41_logical.md to 45_compare.md, 48_system.md, 49_undocumented.md). -/

namespace Sys2Proof.Machine

/-! ### What each class leaves -/

theorem readOperand_mem_pc (m : MemForm) (s : State) : (readOperand (.mem m) s).2.pc = s.pc :=
  congrArg Regs.pc (readOperand_mem_regs m s)

theorem operandOf_of_form_immediate {i : Instr} {v : Byte} (h : i.form = .immediate v) (s : State) :
    operandOf i s = v := by
  rw [operandOf, h]

theorem read_act_pc {o : Op} {act : Byte → State → State} (hact : actionOf o = .read act)
    (v : Byte) (s : State) : (act v s).pc = s.pc := by
  have hkeeps := keeps_pc o
  rw [hact] at hkeeps
  exact hkeeps v 0 s

theorem rmw_after_pc {o : Op} {new : State → Byte → Byte}
    {after : Byte → Byte → State → State} (hact : actionOf o = .rmw new after) (v r : Byte)
    (s : State) : (after v r s).pc = s.pc := by
  have hkeeps := keeps_pc o
  rw [hact] at hkeeps
  exact hkeeps v r s

theorem read_act_mem {o : Op} {act : Byte → State → State} (hact : actionOf o = .read act)
    (v : Byte) (s : State) : (act v s).mem = s.mem := by
  rw [read_act_eq_setRegs hact]
  rfl

/-- A reading instruction leaves the registers its effect leaves, goes on after itself, and changes
no memory; an immediate form has no Bus event but its tick of 2. -/
theorem exec_read {i : Instr} {act : Byte → State → State} (hact : actionOf i.op = .read act)
    (s : State) : ∃ t, exec i s = .next t ∧
      t.regs = { (act (operandOf i s) s).regs with
        pc := s.pc + BitVec.ofNat 16 (encode i).length } ∧
      t.mem = s.mem ∧ (∀ v, i.form = .immediate v → t.bus = s.bus ++ [.tick 2]) := by
  obtain ⟨t, ht⟩ := exists_exec_eq_next i s
  refine ⟨t, ht, ?_⟩
  cases shape i with
  | readImm act' v hact' hform =>
    obtain rfl : act' = act := by simpa [hact] using hact'.symm
    have hbus := exec_bus ht
    rw [exec_read_imm hact hform] at ht
    cases ht
    refine ⟨?_, read_act_mem hact v s, fun _ _ => ?_⟩
    · rw [finish_regs, read_act_pc hact, operandOf_of_form_immediate hform]
    · have hcycles := baseCycles_eq_two (i := i) (.inl (by simp [hform, AddrForm.mode]))
      rw [hbus, branchExtra_eq_zero (by simp [hact]), hcycles]
      simp [accessEvents, hact, hform]
  | readMem act' m hact' hform =>
    obtain rfl : act' = act := by simpa [hact] using hact'.symm
    rw [exec_read_mem hact hform] at ht
    cases ht
    refine ⟨?_, ?_, by simp [hform]⟩
    · rw [finish_regs, read_act_pc hact, readOperand_mem_pc,
        read_act_regs_congr hact _ (readOperand_mem_regs m s)]
    · rw [finish_mem, read_act_mem hact, readOperand_mem_state]
  | readNone act' hact' hform huNop =>
    obtain rfl : act = discard := by simpa [huNop, actionOf, eq_comm] using hact
    rw [exec_read_none hact hform] at ht
    cases ht
    exact ⟨rfl, rfl, by simp [hform]⟩
  | _ => simp_all

theorem onlyByteChanged_of_mem {s t : State} {a : Addr} {v : Byte} (hs : Memory.wf s.mem = true)
    (h : t.mem = Memory.write s.mem a.toNat v) : OnlyByteChanged s t a v := by
  refine ⟨?_, fun b hb => ?_⟩
  · rw [State.peek, h, Memory.read_write_same hs]
  · rw [State.peek, h, Memory.read_write_other _ _ (toNat_ne_of_ne hb), State.peek]

/-- A storing instruction writes its byte at the effective address, changes no register but the
program counter, and goes on after itself. -/
theorem exec_write {i : Instr} {value : State → Byte} (hact : actionOf i.op = .write value)
    (s : State) : ∃ t, exec i s = .next t ∧
      t.regs = { s.regs with pc := s.pc + BitVec.ofNat 16 (encode i).length } ∧
      t.mem = Memory.write s.mem (eaOf i s).toNat (value s) := by
  cases shape i with
  | write value' m hact' hform =>
    obtain rfl : value' = value := by simpa [hact] using hact'.symm
    refine ⟨_, exec_write_mem hact hform s, ?_, ?_⟩
    · rw [finish_regs, memWrite_regs, effectiveAddress_regs, memWrite_pc, effectiveAddress_pc]
    · rw [finish_mem, memWrite_mem, effectiveAddress_mem, value_effectiveAddress hact]
  | _ => simp_all

/-- A read-modify-write instruction on memory writes its byte at the effective address, leaves the
registers its effect leaves, and goes on after itself. -/
theorem exec_rmw {i : Instr} {new : State → Byte → Byte}
    {after : Byte → Byte → State → State} (hact : actionOf i.op = .rmw new after)
    (hform : i.form ≠ .accumulator) (s : State) : ∃ t, exec i s = .next t ∧
      t.regs = { (after (operandOf i s) (new s (operandOf i s)) s).regs with
        pc := s.pc + BitVec.ofNat 16 (encode i).length } ∧
      t.mem = Memory.write s.mem (eaOf i s).toNat (new s (operandOf i s)) := by
  cases shape i with
  | rmw new' after' m hact' hform' =>
    obtain ⟨rfl, rfl⟩ : new' = new ∧ after' = after := by simpa [hact, eq_comm] using hact'
    refine ⟨_, exec_rmw_mem hact hform' s, ?_, ?_⟩
    · rw [finish_regs, rmw_after_pc hact, memWrite_pc, readOperand_mem_pc, new_readOperand hact,
        rmw_after_regs_congr hact _ _ ((memWrite_regs _ _ _).trans (readOperand_mem_regs m s))]
    · rw [finish_mem, rmw_after_eq_setRegs hact, new_readOperand hact, readOperand_mem_state]
      rfl
  | acc _ _ _ hform' => exact absurd hform' hform
  | _ => simp_all

/-- A read-modify-write instruction on `A` accesses no data and goes on after its one byte. -/
theorem exec_rmw_acc {i : Instr} {new : State → Byte → Byte}
    {after : Byte → Byte → State → State} (hact : actionOf i.op = .rmw new after)
    (hform : i.form = .accumulator) (s : State) : ∃ t, exec i s = .next t ∧
      t.regs = { (after s.a (new s s.a) { s with a := new s s.a }).regs with pc := s.pc + 1 } ∧
      t.bus = s.bus ++ [.tick 2] ∧ t.mem = s.mem := by
  have hbus := exec_bus (exec_acc hact hform s)
  refine ⟨_, exec_acc hact hform s, ?_, ?_, ?_⟩
  · rw [finish_regs, rmw_after_pc hact, encode_length, hform]
    rfl
  · have hcycles := baseCycles_eq_two (i := i) (.inl (by simp [hform, AddrForm.mode]))
    rw [hbus, branchExtra_eq_zero (by simp [hact]), hcycles]
    simp [accessEvents, hact, hform]
  · rw [finish_mem, rmw_after_eq_setRegs hact]
    rfl

/-! ### The effects -/

theorem setZN_regs (r : Byte) (s : State) :
    (setZN r s).regs = { s.regs with p := znOf r s.p } := by
  rw [← Flags.setZN_eq]
  rfl

theorem loadA_regs (v : Byte) (s : State) :
    (loadA v s).regs = { s.regs with a := v, p := znOf v s.p } := by
  rw [loadA, setZN_regs]
  rfl

theorem loadX_regs (v : Byte) (s : State) :
    (loadX v s).regs = { s.regs with x := v, p := znOf v s.p } := by
  rw [loadX, setZN_regs]
  rfl

theorem loadY_regs (v : Byte) (s : State) :
    (loadY v s).regs = { s.regs with y := v, p := znOf v s.p } := by
  rw [loadY, setZN_regs]
  rfl

theorem loadAX_regs (v : Byte) (s : State) :
    (loadAX v s).regs = { s.regs with a := v, x := v, p := znOf v s.p } := by
  rw [loadAX, setZN_regs]
  rfl

theorem adcAcc_regs (m : Byte) (s : State) : (adcAcc m s).regs = { s.regs with
    a := BitVec.ofNat 8 (s.a.toNat + m.toNat + s.p.c.toNat)
    p := znOf (BitVec.ofNat 8 (s.a.toNat + m.toNat + s.p.c.toNat)) { s.p with
      c := decide (255 < s.a.toNat + m.toNat + s.p.c.toNat)
      v := outOfSignedRange (signedByte s.a + signedByte m + (s.p.c.toNat : Int)) } } := by
  have hp : (adcAcc m s).p = s.p.afterAdd s.a m := rfl
  rw [State.regs, hp, Flags.afterAdd_eq]
  rfl

theorem sbcAcc_regs (m : Byte) (s : State) : (sbcAcc m s).regs = { s.regs with
    a := s.a - m - BitVec.ofNat 8 (1 - s.p.c.toNat)
    p := znOf (s.a - m - BitVec.ofNat 8 (1 - s.p.c.toNat)) { s.p with
      c := decide (m.toNat + (1 - s.p.c.toNat) ≤ s.a.toNat)
      v := outOfSignedRange
        (signedByte s.a - signedByte m - ((1 - s.p.c.toNat : Nat) : Int)) } } := by
  rw [sbcAcc, ← addResult_complement, ← carry_complement, ← signed_complement]
  exact adcAcc_regs _ s

theorem compareCore_regs (reg m : Byte) (s : State) : (compareCore reg m s).regs = { s.regs with
    p := { s.p with
      c := decide (m.toNat ≤ reg.toNat)
      z := decide (reg = m)
      n := decide (128 ≤ (reg.toNat + (256 - m.toNat)) % 256) } } := by
  rw [← Flags.afterCompare_eq]
  rfl

theorem compareCore_regs_znOf (reg m : Byte) (s : State) : (compareCore reg m s).regs =
    { s.regs with p := znOf (reg - m) { s.p with c := decide (m.toNat ≤ reg.toNat) } } := by
  rw [← Flags.setZN_eq]
  rfl

/-! ### The reading families -/

theorem memoryUnchanged_of_mem {s t : State} (h : t.mem = s.mem) : MemoryUnchanged s t :=
  fun b => congrArg (Memory.read · b.toNat) h

/-- `exec_read` with the registers the effect leaves named. -/
theorem exec_read_regs {i : Instr} {act : Byte → State → State} {s : State} {r : Regs}
    (hact : actionOf i.op = .read act) (hr : (act (operandOf i s) s).regs = r) :
    ∃ t, exec i s = .next t ∧
      t.regs = { r with pc := s.pc + BitVec.ofNat 16 (encode i).length } ∧
      MemoryUnchanged s t ∧ (∀ v, i.form = .immediate v → t.bus = s.bus ++ [.tick 2]) := by
  obtain ⟨t, ht, hregs, hmem, hbus⟩ := exec_read hact s
  exact ⟨t, ht, by rw [hregs, hr], memoryUnchanged_of_mem hmem, hbus⟩

/-- The modes of the logical family. -/
theorem mode_of_logical : ∀ e ∈ registry, e.op ∈ [Op.and, .ora, .eor] →
    e.mode ∈ [.immediate, .zeroPage, .zeroPageX, .absolute, .absoluteX, .absoluteY,
      .indexedIndirect, .indirectIndexed] := by
  decide +kernel

/-- Settles O26: each of the three loads `A` with its combination of `A` and the operand. -/
theorem logicalOpsCombineIntoA : Obligations.LogicalOpsCombineIntoA := by
  intro i s hop
  refine ⟨forall_instr_of_forall_registry (P := fun o mode _ => o ∈ [Op.and, .ora, .eor] →
    mode ∈ _) mode_of_logical i hop, ?_⟩
  simp only [List.mem_cons, List.not_mem_nil, or_false] at hop
  rcases hop with h | h | h <;> simp only [h, reduceCtorEq, if_true, if_false]
  · exact exec_read_regs (act := andAcc) (by rw [h]; rfl) (loadA_regs _ s)
  · exact exec_read_regs (act := oraAcc) (by rw [h]; rfl) (loadA_regs _ s)
  · exact exec_read_regs (act := eorAcc) (by rw [h]; rfl) (loadA_regs _ s)

/-- Settles O28: the effect of ADC is `adcAcc`, as numbers. -/
theorem adcAddsWithCarry : Obligations.AdcAddsWithCarry := fun i s hop =>
  exec_read_regs (by rw [hop]; rfl) (adcAcc_regs (operandOf i s) s)

/-- Settles O29: the effect of SBC is `sbcAcc`, as numbers. -/
theorem sbcSubtractsWithBorrow : Obligations.SbcSubtractsWithBorrow := by
  intro i s hop
  have hact : actionOf i.op = .read sbcAcc := by rcases hop with h | h <;> rw [h] <;> rfl
  exact exec_read_regs hact (sbcAcc_regs (operandOf i s) s)

/-- Settles O34: each of the four loads its registers with the operand. -/
theorem loadsSetRegisterAndZeroNegative : Obligations.LoadsSetRegisterAndZeroNegative := by
  intro i s hop m
  simp only [List.mem_cons, List.not_mem_nil, or_false] at hop
  rcases hop with h | h | h | h <;> simp only [h, reduceCtorEq, or_self, or_true, if_true, if_false]
  · exact exec_read_regs (by rw [h]; rfl) (loadA_regs m s)
  · exact exec_read_regs (by rw [h]; rfl) (loadX_regs m s)
  · exact exec_read_regs (by rw [h]; rfl) (loadY_regs m s)
  · exact exec_read_regs (by rw [h]; rfl) (loadAX_regs m s)

/-- Settles O37: each of the three compares its register with the operand. -/
theorem comparesWriteOnlyFlags : Obligations.ComparesWriteOnlyFlags := by
  intro i s hop m
  simp only [List.mem_cons, List.not_mem_nil, or_false] at hop
  rcases hop with h | h | h <;> simp only [h, reduceCtorEq, if_true, if_false]
  · exact exec_read_regs (act := cmpA) (by rw [h]; rfl) (compareCore_regs s.a m s)
  · exact exec_read_regs (act := cmpX) (by rw [h]; rfl) (compareCore_regs s.x m s)
  · exact exec_read_regs (act := cmpY) (by rw [h]; rfl) (compareCore_regs s.y m s)

/-- Settles O48: the undocumented forms read and discard, and the implicit ones do nothing. -/
theorem nopsOnlyAdvance : Obligations.NopsOnlyAdvance := by
  intro i s hop
  have himplicit {t : State} (ht : exec i s = .next t) (hform : i.form = .implicit) :
      t.bus = s.bus ++ [.tick 2] := by
    have hcycles := baseCycles_eq_two (i := i)
      (.inr ⟨by simpa using hop, by rw [hform]; rfl⟩)
    have hevents : accessEvents i s = [] ∧ branchExtra i s = 0 := by
      rcases hop with h | h <;>
        simp [accessEvents, branchExtra, branchTaken, h, hform, actionOf, stackEvents]
    rw [exec_bus ht, hevents.1, hevents.2, hcycles]
    rfl
  rcases hop with h | h
  · cases shape i with
    | implied act hact hform =>
      obtain rfl : act = noEffect := by simpa [h, actionOf, eq_comm] using hact
      have ht := exec_implied hact hform s
      exact ⟨_, ht, rfl, rfl, fun _ => himplicit ht hform⟩
    | _ => simp_all [actionOf]
  · obtain ⟨t, ht, hregs, hmem, hbus⟩ := exec_read (act := discard) (by rw [h]; rfl) s
    exact ⟨t, ht, hmem, hregs, fun hform => hform.elim (himplicit ht) fun ⟨v, hv⟩ => hbus v hv⟩

/-! ### The storing families -/

/-- Settles O35: each of the four writes its byte. -/
theorem storesWriteOneByteAndNoFlag : Obligations.StoresWriteOneByteAndNoFlag := by
  intro i s hmem hop v
  have key {value : State → Byte} (hact : actionOf i.op = .write value) (hv : value s = v) :
      ∃ t, exec i s = .next t ∧
        t.regs = { s.regs with pc := s.pc + BitVec.ofNat 16 (encode i).length } ∧
        OnlyByteChanged s t (eaOf i s) v := by
    obtain ⟨t, ht, hregs, htmem⟩ := exec_write hact s
    exact ⟨t, ht, hregs, onlyByteChanged_of_mem hmem (hv ▸ htmem)⟩
  simp only [List.mem_cons, List.not_mem_nil, or_false] at hop
  rcases hop with h | h | h | h
  · exact key (value := State.a) (by rw [h]; rfl) (by simp [v, h])
  · exact key (value := State.x) (by rw [h]; rfl) (by simp [v, h])
  · exact key (value := State.y) (by rw [h]; rfl) (by simp [v, h])
  · exact key (value := saxByte) (by rw [h]; rfl) (by simp [v, h, saxByte])

/-! ### The read-modify-write families -/

/-- `exec_rmw` with the byte written and the registers the effect leaves named. -/
theorem exec_rmw_regs {i : Instr} {new : State → Byte → Byte}
    {after : Byte → Byte → State → State} {s : State} {b : Byte} {r : Regs}
    (hact : actionOf i.op = .rmw new after) (hform : i.form ≠ .accumulator)
    (hmem : Memory.wf s.mem = true) (hb : new s (operandOf i s) = b)
    (hr : (after (operandOf i s) b s).regs = r) : ∃ t, exec i s = .next t ∧
      t.regs = { r with pc := s.pc + BitVec.ofNat 16 (encode i).length } ∧
      OnlyByteChanged s t (eaOf i s) b := by
  obtain ⟨t, ht, hregs, htmem⟩ := exec_rmw hact hform s
  exact ⟨t, ht, by rw [hregs, hb, hr], onlyByteChanged_of_mem hmem (hb ▸ htmem)⟩

theorem form_ne_accumulator {i : Instr} (h : i.op ∉ shiftOps) : i.form ≠ .accumulator :=
  fun hform => h (mem_shiftOps_of_form_accumulator hform)

/-- Settles O30: both write the byte they make and set zero and negative from it. -/
theorem incDecChangeOneByte : Obligations.IncDecChangeOneByte := by
  intro i s hmem hop
  have hform : i.form ≠ .accumulator :=
    form_ne_accumulator (by rcases hop with h | h <;> rw [h] <;> decide)
  rcases hop with h | h <;> simp only [h, reduceCtorEq, if_true, if_false]
  · have hbyte : operandOf i s + 1 = BitVec.ofNat 8 ((operandOf i s).toNat + 1) := by bv_omega
    exact exec_rmw_regs (after := incFlags) (by rw [h]; rfl) hform hmem hbyte (setZN_regs _ s)
  · have hbyte : operandOf i s - 1 = BitVec.ofNat 8 ((operandOf i s).toNat + 255) := by bv_omega
    exact exec_rmw_regs (after := decFlags) (by rw [h]; rfl) hform hmem hbyte (setZN_regs _ s)

/-- The shifts and rotates, on `A` and on memory alike: the byte made, and the flags left. -/
theorem shift_action {o : Op} (h : o ∈ shiftOps) : ∃ new after, actionOf o = .rmw new after ∧
    (∀ s v, new s v = (shiftSpec o s.p.c v).1) ∧
    ∀ v r s, (after v r s).regs = { s.regs with
      p := znOf r { s.p with c := (shiftSpec o s.p.c v).2 } } := by
  simp only [shiftOps, List.mem_cons, List.not_mem_nil, or_false] at h
  rcases h with rfl | rfl | rfl | rfl
  · refine ⟨_, _, rfl, fun s v => aslByte_eq _ s v, fun v r s => ?_⟩
    rw [aslFlags, setZN_regs, bit7_eq]
    rfl
  · refine ⟨_, _, rfl, fun s v => lsrByte_eq _ s v, fun v r s => ?_⟩
    rw [lsrFlags, setZN_regs, bit0_eq]
    rfl
  · refine ⟨_, _, rfl, rolByte_eq, fun v r s => ?_⟩
    rw [rolFlags, setZN_regs, bit7_eq]
    rfl
  · refine ⟨_, _, rfl, rorByte_eq, fun v r s => ?_⟩
    rw [rorFlags, setZN_regs, bit0_eq]
    rfl

/-- Settles O33: a shift on memory, by `shift_action`. -/
theorem shiftsWorkOnMemory : Obligations.ShiftsWorkOnMemory := by
  intro i s hmem hop hform r
  obtain ⟨new, after, hact, hnew, hafter⟩ := shift_action hop
  exact exec_rmw_regs hact hform hmem (hnew s _) (hafter _ _ s)

/-- Settles O32: a shift on `A`, by `shift_action`. -/
theorem shiftsWorkOnA : Obligations.ShiftsWorkOnA := by
  intro i s hop hform r
  obtain ⟨new, after, hact, hnew, hafter⟩ := shift_action hop
  obtain ⟨t, ht, hregs, hbus, hmem⟩ := exec_rmw_acc hact hform s
  refine ⟨t, ht, ?_, hbus, memoryUnchanged_of_mem hmem⟩
  rw [hregs, hafter, hnew]
  rfl

/-- Settles O49: the byte made goes to memory, and then to the comparison or the subtraction. -/
theorem dcpAndIsbCombine : Obligations.DcpAndIsbCombine := by
  intro i s hmem hop m pc borrow
  have hform : i.form ≠ .accumulator :=
    form_ne_accumulator (by rcases hop with h | h <;> rw [h] <;> decide)
  rcases hop with h | h
  · obtain ⟨t, ht, hregs, hbyte⟩ := exec_rmw_regs (new := decByte) (after := dcpAfter)
      (by rw [h]; rfl) hform hmem rfl (compareCore_regs_znOf s.a (m - 1) s)
    exact ⟨t, ht, fun _ => ⟨hbyte, hregs⟩, fun h' => by simp [h] at h'⟩
  · obtain ⟨t, ht, hregs, hbyte⟩ := exec_rmw_regs (new := incByte) (after := isbAfter)
      (by rw [h]; rfl) hform hmem rfl (sbcAcc_regs (m + 1) s)
    exact ⟨t, ht, fun h' => by simp [h] at h', fun _ => ⟨hbyte, hregs⟩⟩

theorem loadA_setCarry_regs (v : Byte) (c : Bool) (s : State) : (loadA v (setCarry c s)).regs =
    { s.regs with a := v, p := znOf v { s.p with c := c } } := by
  rw [loadA_regs]
  rfl

theorem sloAfter_regs (v r : Byte) (s : State) : (sloAfter v r s).regs = { s.regs with
    a := s.a ||| r, p := znOf (s.a ||| r) { s.p with c := (shiftSpec .asl s.p.c v).2 } } := by
  rw [sloAfter, loadA_setCarry_regs, bit7_eq]
  rfl

theorem rlaAfter_regs (v r : Byte) (s : State) : (rlaAfter v r s).regs = { s.regs with
    a := s.a &&& r, p := znOf (s.a &&& r) { s.p with c := (shiftSpec .rol s.p.c v).2 } } := by
  rw [rlaAfter, loadA_setCarry_regs, bit7_eq]
  rfl

theorem sreAfter_regs (v r : Byte) (s : State) : (sreAfter v r s).regs = { s.regs with
    a := s.a ^^^ r, p := znOf (s.a ^^^ r) { s.p with c := (shiftSpec .lsr s.p.c v).2 } } := by
  rw [sreAfter, loadA_setCarry_regs, bit0_eq]
  rfl

theorem rraAfter_regs (v r : Byte) (s : State) :
    let c := (shiftSpec .ror s.p.c v).2
    let sum := s.a.toNat + r.toNat + c.toNat
    (rraAfter v r s).regs = { s.regs with
      a := BitVec.ofNat 8 sum
      p := znOf (BitVec.ofNat 8 sum) { s.p with
        c := decide (255 < sum)
        v := outOfSignedRange (signedByte s.a + signedByte r + (c.toNat : Int)) } } := by
  rw [rraAfter, adcAcc_regs, bit0_eq]
  rfl

/-- Settles O50: the byte made goes to memory, and then into `A`; the addition of *RRA takes the
carry just rotated out. -/
theorem shiftCombinesIntoA : Obligations.ShiftCombinesIntoA := by
  intro i s hmem hop
  have hform : i.form ≠ .accumulator := form_ne_accumulator (by
    intro hshift
    generalize i.op = o at hop hshift
    revert hop hshift
    cases o <;> decide)
  simp only [List.mem_cons, List.not_mem_nil, or_false] at hop
  rcases hop with h | h | h | h <;> simp only [h, reduceCtorEq, if_true, if_false]
  · obtain ⟨t, ht, hregs, hbyte⟩ := exec_rmw_regs (by rw [h]; rfl) hform hmem
      (aslByte_eq s.p.c s _) (sloAfter_regs _ _ s)
    exact ⟨t, ht, hbyte, hregs⟩
  · obtain ⟨t, ht, hregs, hbyte⟩ := exec_rmw_regs (by rw [h]; rfl) hform hmem
      (rolByte_eq s _) (rlaAfter_regs _ _ s)
    exact ⟨t, ht, hbyte, hregs⟩
  · obtain ⟨t, ht, hregs, hbyte⟩ := exec_rmw_regs (by rw [h]; rfl) hform hmem
      (lsrByte_eq s.p.c s _) (sreAfter_regs _ _ s)
    exact ⟨t, ht, hbyte, hregs⟩
  · obtain ⟨t, ht, hregs, hbyte⟩ := exec_rmw_regs (by rw [h]; rfl) hform hmem
      (rorByte_eq s _) (rraAfter_regs _ _ s)
    exact ⟨t, ht, hbyte, hregs⟩

end Sys2Proof.Machine
end

section
/-! Address resolution in numbers (40_step_and_addressing.md R77 to R84), and reading after writing
(20_memory.md R44). -/

namespace Sys2Proof.Machine

/-! ### Addresses as numbers -/

theorem zeroPageAddr_eq (z : Byte) : zeroPageAddr z = BitVec.ofNat 16 z.toNat := by
  have hz := z.isLt
  apply BitVec.eq_of_toNat_eq
  rw [zeroPageAddr, addrOfBytes_toNat, BitVec.toNat_ofNat]
  simp; omega

theorem add_zext16_toNat (a : Addr) (k : Byte) :
    (a + zext16 k).toNat = (a.toNat + k.toNat) % 65536 := by
  have hk := k.isLt
  rw [BitVec.toNat_add, zext16, BitVec.toNat_setWidth, Nat.mod_eq_of_lt (a := k.toNat) (by omega)]

/-- Indexing in numbers: the sum modulo 65536, and whether the 256-byte block changed. -/
theorem indexed_eq (a : Addr) (k : Byte) : indexed a k =
    ⟨BitVec.ofNat 16 ((a.toNat + k.toNat) % 65536),
      decide (a.toNat / 256 ≠ (a.toNat + k.toNat) % 65536 / 256)⟩ := by
  have hsum : a + zext16 k = BitVec.ofNat 16 ((a.toNat + k.toNat) % 65536) := by
    rw [← add_zext16_toNat, BitVec.ofNat_toNat, BitVec.setWidth_eq]
  have hcross : (page a != page (a + zext16 k)) =
      decide (a.toNat / 256 ≠ (a.toNat + k.toNat) % 65536 / 256) := by
    rw [Bool.eq_iff_iff, bne_iff_ne, decide_eq_true_iff, ne_eq, ← BitVec.toNat_inj, page, page,
      highByte_toNat, highByte_toNat, add_zext16_toNat]
  rw [indexed, hcross, hsum]

/-- Settles O21: a sum of bytes wraps at 256. -/
theorem zeroPageModesStayInPageZero : Obligations.ZeroPageModesStayInPageZero := by
  intro z s
  refine ⟨?_, ?_, ?_⟩ <;> simp [resolve, zeroPageAddr_eq, BitVec.toNat_add]

/-- Settles O22: the absolute modes index by `indexed_eq`. -/
theorem absoluteModesAddTheIndex : Obligations.AbsoluteModesAddTheIndex := by
  intro a s
  refine ⟨rfl, ?_, ?_, ?_, ?_⟩ <;> simp only [resolve, indexed_eq]

/-- Settles O23: both pointer modes read a pair of zero-page addresses, and the second indexes what
it reads. -/
theorem pointerModesReadTheZeroPage : Obligations.PointerModesReadTheZeroPage := by
  intro z s
  refine ⟨?_, ?_, ?_⟩ <;>
    simp only [resolve, read16ZP, readPair_spec, zeroPageAddr_eq, indexed_eq]

/-- Settles O55: with no answers left memory answers, and a write changes one byte of it. -/
theorem readAfterWriteGivesTheByte : Obligations.ReadAfterWriteGivesTheByte := by
  intro s a b v hmem hanswers
  have hwritten : (memWrite a v s).answers = [] := hanswers
  simp only [memRead_value, answerAt_of_no_answers hwritten, answerAt_of_no_answers hanswers]
  exact ⟨memWrite_peek_same a v hmem, memWrite_peek_other v s⟩

end Sys2Proof.Machine
end

section
/-! Branches, jumps and subroutines, the stack, exceptions, and the instructions without an operand
(44_load_store_transfer.md to 48_system.md). -/

namespace Sys2Proof.Machine

/-! ### Instructions without an operand -/

/-- Settles O44: each flag instruction is the update of its flag, and `finish`. -/
theorem flagOpsWriteOneFlag : Obligations.FlagOpsWriteOneFlag := fun _ =>
  ⟨⟨_, rfl, rfl, rfl, rfl⟩, ⟨_, rfl, rfl, rfl, rfl⟩, ⟨_, rfl, rfl, rfl, rfl⟩,
    ⟨_, rfl, rfl, rfl, rfl⟩, ⟨_, rfl, rfl, rfl, rfl⟩, ⟨_, rfl, rfl, rfl, rfl⟩,
    ⟨_, rfl, rfl, rfl, rfl⟩⟩

theorem finish_one_regs (cycles : Nat) {s : State} {r : Regs} (h : s.regs = r) :
    (finish 1 cycles s).regs = { r with pc := s.pc + 1 } := by
  rw [← h]
  rfl

/-- Settles O36: each transfer is a load of the register's value, TXS of no flag. -/
theorem transfersCopyRegisters : Obligations.TransfersCopyRegisters := fun s =>
  ⟨⟨_, rfl, rfl, rfl, finish_one_regs 2 (loadX_regs s.a s)⟩,
    ⟨_, rfl, rfl, rfl, finish_one_regs 2 (loadY_regs s.a s)⟩,
    ⟨_, rfl, rfl, rfl, finish_one_regs 2 (loadA_regs s.x s)⟩,
    ⟨_, rfl, rfl, rfl, finish_one_regs 2 (loadA_regs s.y s)⟩,
    ⟨_, rfl, rfl, rfl, finish_one_regs 2 (loadX_regs s.sp s)⟩,
    ⟨_, rfl, rfl, rfl, rfl⟩⟩

/-- Settles O31: each counts by a load of the register one on or one back. -/
theorem indexRegistersCount : Obligations.IndexRegistersCount := by
  intro s
  have hup (b : Byte) : BitVec.ofNat 8 (b.toNat + 1) = b + 1 := by bv_omega
  have hdown (b : Byte) : BitVec.ofNat 8 (b.toNat + 255) = b - 1 := by bv_omega
  simp only [hup, hdown]
  exact ⟨⟨_, rfl, rfl, rfl, finish_one_regs 2 (loadX_regs _ s)⟩,
    ⟨_, rfl, rfl, rfl, finish_one_regs 2 (loadY_regs _ s)⟩,
    ⟨_, rfl, rfl, rfl, finish_one_regs 2 (loadX_regs _ s)⟩,
    ⟨_, rfl, rfl, rfl, finish_one_regs 2 (loadY_regs _ s)⟩⟩

/-! ### Branches and jumps -/

theorem sext16_eq (d : Byte) : sext16 d = BitVec.ofInt 16 (signedByte d) := by
  revert d
  decide +kernel

theorem branchNext_toNat (pc : Addr) : (branchNext pc).toNat = (pc.toNat + 2) % 65536 := rfl

/-- The target of a branch in numbers: the signed displacement, modulo 65536. -/
theorem branchTarget_toNat (pc : Addr) (d : Byte) : (branchTarget pc d).toNat =
    (((((pc.toNat + 2) % 65536 : Nat) : Int) + signedByte d) % 65536).toNat := by
  rw [branchTarget, sext16_eq, BitVec.toNat_add, branchNext_toNat, BitVec.toNat_ofInt]
  omega

theorem page_eq_iff (a b : Addr) : page a = page b ↔ a.toNat / 256 = b.toNat / 256 := by
  rw [← BitVec.toNat_inj, page, page, highByte_toNat, highByte_toNat]

theorem exists_cond_of_branchOps {o : Op} (h : o ∈ branchOps) :
    ∃ cond, actionOf o = .branch cond := by
  revert h
  cases o <;> first | exact fun _ => ⟨_, rfl⟩ | exact fun h => absurd h (by decide)

/-- Settles O38: a branch is decided by its condition, and its target and penalty are read as
numbers. -/
theorem branchesTestOneFlag : Obligations.BranchesTestOneFlag := by
  intro i s hop taken next target
  obtain ⟨cond, hact⟩ := exists_cond_of_branchOps hop
  obtain ⟨d, hform⟩ := form_of_branch hact
  have hdisp : dispOf i = d := by rw [dispOf, hform]
  have htarget : (branchTarget s.pc d).toNat = target := by rw [branchTarget_toNat, ← hdisp]
  have htaken : taken ↔ cond s.p = true := by
    rw [← branchTaken_eq_cond hact]
    simp [taken, branchTaken, or_assoc]
  have hcycles := baseCycles_eq_two (i := i) (.inl (by simp [hform, AddrForm.mode]))
  have hexec := exec_branch hact hform s
  rw [encode_length, hform, hcycles] at hexec
  by_cases hcond : cond s.p = true
  · rw [if_pos hcond] at hexec
    refine ⟨_, hexec, fun _ => rfl, fun _ => ⟨?_, ?_⟩, fun h => absurd (htaken.mpr hcond) h⟩
    · rw [finishAt_regs, ← htarget, BitVec.ofNat_toNat, BitVec.setWidth_eq]
    · simp only [finishAt_bus, branchPenalty, page_eq_iff, htarget, branchNext_toNat]
      split <;> rfl
  · rw [if_neg hcond] at hexec
    refine ⟨_, hexec, fun _ => rfl, fun h => absurd (htaken.mp h) hcond, fun _ => ⟨?_, rfl⟩⟩
    have hnext : BitVec.ofNat 16 next = branchNext s.pc := by
      rw [show next = (branchNext s.pc).toNat from rfl, BitVec.ofNat_toNat, BitVec.setWidth_eq]
    rw [hnext]
    rfl

/-- Settles O39: both jumps are `finishAt` at the address resolved. -/
theorem jumpsSetTheProgramCounter : Obligations.JumpsSetTheProgramCounter := by
  intro a s
  refine ⟨⟨_, rfl, rfl, rfl, rfl⟩, ?_⟩
  intro hi
  have hhi : wrapInPage a = hi := wrapInPage_eq a
  have hstep : exec (.jmpInd a) s = .next (finishAt (read16Wrap a s).1 5 (read16Wrap a s).2) := rfl
  rw [read16Wrap, hhi, readPair_spec] at hstep
  exact ⟨_, hstep, rfl, rfl, by simp⟩

theorem exec_jsrAbs (a : Addr) (s : State) :
    exec (.jsrAbs a) s = .next (finishAt a 6 (pushAddr (s.pc + 2) s)) := rfl

theorem stackAddr_ne {a b : Byte} (h : a ≠ b) : stackAddr a ≠ stackAddr b :=
  fun e => h (stackAddr_inj.mp e)

theorem pushAddr_regs (ret : Addr) (s : State) :
    (pushAddr ret s).regs = { s.regs with sp := s.sp - 2 } := by
  have hsp : s.sp - 1 - 1 = s.sp - 2 := by bv_omega
  rw [pushAddr_spec, ← hsp]
  rfl

/-- The memory two pushes leave. -/
theorem pushAddr_peek {s : State} (hmem : Memory.wf s.mem = true) (ret : Addr) :
    (pushAddr ret s).peek (stackAddr s.sp) = highByte ret ∧
    (pushAddr ret s).peek (stackAddr (s.sp - 1)) = lowByte ret ∧
    ∀ b, b ∉ [stackAddr s.sp, stackAddr (s.sp - 1)] → (pushAddr ret s).peek b = s.peek b := by
  have hne : stackAddr s.sp ≠ stackAddr (s.sp - 1) := stackAddr_ne (by bv_omega)
  have hmem' := Memory.wf_write hmem (stackAddr s.sp) (highByte ret)
  rw [pushAddr_spec]
  refine ⟨?_, Memory.read_write_same hmem' _ _, fun b hb => ?_⟩
  · exact (Memory.read_write_other _ _ (toNat_ne_of_ne hne)).trans
      (Memory.read_write_same hmem _ _)
  · obtain ⟨h0, h1⟩ : b ≠ stackAddr s.sp ∧ b ≠ stackAddr (s.sp - 1) := by simpa using hb
    exact (Memory.read_write_other _ _ (toNat_ne_of_ne h1)).trans
      (Memory.read_write_other _ _ (toNat_ne_of_ne h0))

/-- Settles O40: JSR is the two pushes and the jump. -/
theorem jsrPushesItsLastByte : Obligations.JsrPushesItsLastByte := by
  intro a s hmem last
  have hlast : s.pc + 2 = BitVec.ofNat 16 (s.pc.toNat + 2) := by bv_omega
  have hhigh : highByte last = BitVec.ofNat 8 (last.toNat / 256) := by
    rw [← highByte_toNat, BitVec.ofNat_toNat, BitVec.setWidth_eq]
  have hlow : lowByte last = BitVec.ofNat 8 last.toNat := (BitVec.ofNat_toNat ..).symm
  obtain ⟨hpeek, hpeek', hframe⟩ := pushAddr_peek hmem last
  have hstep := exec_jsrAbs a s
  rw [hlast] at hstep
  rw [← hhigh, ← hlow]
  refine ⟨_, hstep, ?_, ?_, hpeek, hpeek', hframe⟩
  · rw [finishAt_regs, pushAddr_regs]
  · rw [finishAt_bus, pushAddr_spec, List.append_assoc]
    rfl

theorem exec_rts_instr (s : State) :
    exec .rts s = .next (finishAt ((pullAddr s).1 + 1) 6 (pullAddr s).2) := rfl

/-- Settles O41: RTS is the two pulls and the jump one past them. -/
theorem rtsPullsAndAddsOne : Obligations.RtsPullsAndAddsOne := by
  intro s lo hi
  have hsp : s.sp + 1 + 1 = s.sp + 2 := by bv_omega
  have hstep := exec_rts_instr s
  rw [pullAddr_spec, hsp] at hstep
  exact ⟨_, hstep, rfl, rfl, by simp [lo, hi]⟩

/-! ### The stack -/

theorem stackAddr_eq_ofNat (b : Byte) : stackAddr b = BitVec.ofNat 16 (256 + b.toNat) := by
  rw [← stackAddr_toNat, BitVec.ofNat_toNat, BitVec.setWidth_eq]

/-- The status PHP and BRK push is the register byte with bits 4 and 5 set. -/
theorem pack_true_eq_pByte (s : State) : s.p.pack true = s.pByte ||| 0x30 := by
  unfold State.pByte
  obtain ⟨n, v, d, i, z, c⟩ := s.p
  revert n v d i z c
  decide

/-- A push and the end of its instruction. -/
theorem finish_push {s : State} (hmem : Memory.wf s.mem = true) (v : Byte) :
    let t := finish 1 3 (push v s)
    t.regs = { s.regs with sp := s.sp - 1, pc := s.pc + 1 } ∧
    t.bus = s.bus ++ [.write (stackAddr s.sp) v, .tick 3] ∧
    OnlyByteChanged s t (stackAddr s.sp) v :=
  ⟨rfl, by simp, onlyByteChanged_of_mem hmem rfl⟩

/-- Settles O42: both are a push, of `A` or of the packed status. -/
theorem pushesWriteTheStack : Obligations.PushesWriteTheStack := by
  intro s hmem
  rw [← stackAddr_eq_ofNat, ← pack_true_eq_pByte]
  exact ⟨⟨_, rfl, finish_push hmem s.a⟩, ⟨_, rfl, finish_push hmem (s.p.pack true)⟩⟩

/-- The register byte after a pull of the status: bit 5 set, bit 4 clear, the rest as pulled. -/
theorem pByte_of_unpack {s : State} {b : Byte} (h : s.p = Flags.unpack b) :
    s.pByte = (b &&& 0xCF) ||| 0x20 := by
  rw [State.pByte, h, Flags.pack_unpack]

theorem exec_pla (s : State) : exec .pla s =
    .next (finish 1 4 (loadA (pull s).1 (pull s).2)) := rfl

theorem exec_plp (s : State) : exec .plp s =
    .next (finish 1 4 { (pull s).2 with p := Flags.unpack (pull s).1 }) := rfl

/-- Settles O43: both are a pull, into `A` or into the flags. -/
theorem pullsReadTheStack : Obligations.PullsReadTheStack := by
  intro s
  dsimp only
  rw [← stackAddr_eq_ofNat]
  have hpla := exec_pla s
  have hplp := exec_plp s
  rw [pull_spec] at hpla hplp
  refine ⟨⟨_, hpla, ⟨rfl, by simp⟩, finish_one_regs 4 (loadA_regs _ _)⟩,
    ⟨_, hplp, ⟨rfl, by simp⟩, pByte_of_unpack rfl, rfl⟩⟩

/-! ### Exceptions -/

/-- The three stack slots an exception writes hold what it pushed. -/
theorem exceptionMem_slots {s : State} (hmem : Memory.wf s.mem = true) (ret : Addr)
    (status : Byte) :
    Memory.read (exceptionMem s ret status) (stackAddr s.sp).toNat = highByte ret ∧
    Memory.read (exceptionMem s ret status) (stackAddr (s.sp - 1)).toNat = lowByte ret ∧
    Memory.read (exceptionMem s ret status) (stackAddr (s.sp - 2)).toNat = status := by
  have h01 : stackAddr s.sp ≠ stackAddr (s.sp - 1) := stackAddr_ne (by bv_omega)
  have h02 : stackAddr s.sp ≠ stackAddr (s.sp - 2) := stackAddr_ne (by bv_omega)
  have h12 : stackAddr (s.sp - 1) ≠ stackAddr (s.sp - 2) := stackAddr_ne (by bv_omega)
  have hmem1 := Memory.wf_write hmem (stackAddr s.sp) (highByte ret)
  have hmem2 := Memory.wf_write hmem1 (stackAddr (s.sp - 1)) (lowByte ret)
  unfold exceptionMem
  refine ⟨?_, ?_, Memory.read_write_same hmem2 _ _⟩
  · rw [Memory.read_write_other _ _ (toNat_ne_of_ne h02),
      Memory.read_write_other _ _ (toNat_ne_of_ne h01), Memory.read_write_same hmem]
  · rw [Memory.read_write_other _ _ (toNat_ne_of_ne h12), Memory.read_write_same hmem1]

/-- Settles O46: BRK is the exception through 0xFFFE with its own return address. -/
theorem brkEntersTheIrqVector : Obligations.BrkEntersTheIrqVector := by
  intro s hmem ret
  have hstep := exec_brk s
  rw [takeException_spec _ _ _ _ (by decide), pack_true_eq_pByte] at hstep
  obtain ⟨hhigh, hlow, hstatus⟩ := exceptionMem_slots hmem ret (s.pByte ||| 0x30)
  exact ⟨_, hstep, rfl, List.append_assoc .., hhigh, hlow, hstatus,
    fun a ha => exceptionMem_read _ _ ha⟩

theorem exec_rti_instr (s : State) : exec .rti s = .next (tick 6 (returnFromException s)) := rfl

/-- Settles O47: RTI is the return from an exception. -/
theorem rtiRestoresStatusAndCounter : Obligations.RtiRestoresStatusAndCounter := by
  intro s k1 k2 k3
  have hstep := exec_rti_instr s
  rw [returnFromException_spec] at hstep
  exact ⟨_, hstep, rfl, pByte_of_unpack rfl, rfl, by simp [k1, k2, k3]⟩

/-! ### Round trips -/

/-- Two pulls of an address that lies in the two slots above the stack pointer. -/
theorem pullAddr_of_slots {t : State} {sp : Byte} {ret : Addr} (hsp : t.sp = sp - 2)
    (hanswers : t.answers = []) (hhigh : t.peek (stackAddr sp) = highByte ret)
    (hlow : t.peek (stackAddr (sp - 1)) = lowByte ret) :
    (pullAddr t).1 = ret ∧ (pullAddr t).2.regs = { t.regs with sp := sp } := by
  have h1 : sp - 2 + 1 = sp - 1 := by bv_omega
  have h2 : sp - 1 + 1 = sp := by bv_omega
  rw [pullAddr_spec, hsp, h1, h2]
  refine ⟨?_, rfl⟩
  rw [State.pointerAt, answerAt_of_no_answers hanswers, answerAt_of_no_answers hanswers, hhigh,
    hlow, addrOfBytes_high_low]

/-- Settles O51: the two pulls read the two bytes pushed. -/
theorem rtsReturnsFromJsr : Obligations.RtsReturnsFromJsr := by
  intro a s t hmem hanswers h
  rw [exec_jsrAbs] at h
  cases h
  obtain ⟨hhigh, hlow, -⟩ := pushAddr_peek hmem (s.pc + 2)
  obtain ⟨hpc, hregs⟩ := pullAddr_of_slots (t := finishAt a 6 (pushAddr (s.pc + 2) s))
    (congrArg Regs.sp (pushAddr_regs (s.pc + 2) s)) hanswers hhigh hlow
  have hnext : s.pc + 2 + 1 = s.pc + 3 := by bv_omega
  refine ⟨_, exec_rts_instr _, ?_⟩
  rw [finishAt_regs, hregs, finishAt_regs, pushAddr_regs, hpc, hnext]
  rfl

/-- Taking an exception through any vector at all: what it pushes and the flag it sets. -/
theorem takeException_frame (vector ret : Addr) (brk : Bool) (s : State) : ∃ pc bus,
    takeException vector ret brk s = { s with
      sp := s.sp - 3
      pc := pc
      p := { s.p with i := true }
      mem := exceptionMem s ret (s.p.pack brk)
      answers := s.answers.drop 2
      bus := bus } := by
  have h2 : s.sp - 1 - 1 = s.sp - 2 := by bv_omega
  have h3 : s.sp - 2 - 1 = s.sp - 3 := by bv_omega
  simp only [takeException, push_spec, pushAddr_spec, read16, readPair_spec, h2, h3]
  exact ⟨_, _, rfl⟩

/-- A return from an exception whose three bytes lie in the slots above the stack pointer. -/
theorem returnFromException_of_slots {t : State} {sp status : Byte} {ret : Addr}
    (hsp : t.sp = sp - 3) (hanswers : t.answers = [])
    (hhigh : t.peek (stackAddr sp) = highByte ret)
    (hlow : t.peek (stackAddr (sp - 1)) = lowByte ret)
    (hstatus : t.peek (stackAddr (sp - 2)) = status) : (returnFromException t).regs =
      { t.regs with sp := sp, pc := ret, p := Flags.unpack status } := by
  have h1 : sp - 3 + 1 = sp - 2 := by bv_omega
  have h2 : sp - 3 + 2 = sp - 1 := by bv_omega
  have h3 : sp - 3 + 3 = sp := by bv_omega
  rw [returnFromException_spec, hsp, h1, h2, h3, State.pointerAt, answerAt_of_no_answers hanswers,
    answerAt_of_no_answers hanswers, answerAt_of_no_answers hanswers, hhigh, hlow, hstatus,
    addrOfBytes_high_low]
  rfl

/-- RTI after an exception finds what it pushed, where the Bus answers from memory. -/
theorem exec_rti_takeException {s : State} (hmem : Memory.wf s.mem = true)
    (hanswers : s.answers = []) (vector ret : Addr) (brk : Bool) (n : Nat) :
    ∃ u, exec .rti (tick n (takeException vector ret brk s)) = .next u ∧
      u.regs = { s.regs with pc := ret } := by
  obtain ⟨pc, bus, hexc⟩ := takeException_frame vector ret brk s
  obtain ⟨hhigh, hlow, hstatus⟩ := exceptionMem_slots hmem ret (s.p.pack brk)
  have hnone : s.answers.drop 2 = [] := by rw [hanswers]; rfl
  refine ⟨_, exec_rti_instr _, ?_⟩
  refine (returnFromException_of_slots (t := tick n (takeException vector ret brk s)) (sp := s.sp)
    (status := s.p.pack brk) (ret := ret) (by rw [hexc]; rfl) (by rw [hexc]; exact hnone)
    (by rw [hexc]; exact hhigh) (by rw [hexc]; exact hlow) (by rw [hexc]; exact hstatus)).trans ?_
  rw [Flags.unpack_pack, hexc]
  rfl

/-- Settles O52: both are the return from the exception before. -/
theorem rtiResumesTheInterrupted : Obligations.RtiResumesTheInterrupted := by
  intro s hmem hanswers
  refine ⟨fun vec => exec_rti_takeException hmem hanswers vec s.pc false 7, fun t h => ?_⟩
  rw [exec_brk] at h
  cases h
  exact exec_rti_takeException hmem hanswers _ _ true 7

/-- A pull right after a push answers the byte pushed, where the Bus answers from memory. -/
theorem pull_of_slot {t : State} {sp v : Byte} (hsp : t.sp = sp - 1) (hanswers : t.answers = [])
    (hv : t.peek (stackAddr sp) = v) :
    (pull t).1 = v ∧ (pull t).2.regs = { t.regs with sp := sp } := by
  have h1 : sp - 1 + 1 = sp := by bv_omega
  rw [pull_spec, hsp, h1, answerAt_of_no_answers hanswers, hv]
  exact ⟨rfl, rfl⟩

/-- Settles O53: the pull reads the byte pushed, whatever became of the register. -/
theorem pullRestoresWhatPushSaved : Obligations.PullRestoresWhatPushSaved := by
  intro s t a f hmem hanswers
  refine ⟨fun h => ?pla, fun h => ?plp⟩
  case pla =>
    cases h
    obtain ⟨hv, hregs⟩ := pull_of_slot (t := { finish 1 3 (push s.a s) with a := a }) rfl
      hanswers (memWrite_peek_same (stackAddr s.sp) s.a hmem)
    refine ⟨_, exec_pla _, hv, congrArg Regs.sp hregs, ?_⟩
    rw [finish_p, loadA_p, Flags.setZN_eq]
    exact congrArg₂ znOf hv (congrArg Regs.p hregs)
  case plp =>
    cases h
    obtain ⟨hv, hregs⟩ := pull_of_slot
      (t := { finish 1 3 (push (s.p.pack true) s) with p := f }) rfl hanswers
      (memWrite_peek_same (stackAddr s.sp) (s.p.pack true) hmem)
    refine ⟨_, exec_plp _, congrArg Regs.a hregs, congrArg Regs.sp hregs, ?_⟩
    exact (congrArg Flags.unpack hv).trans (Flags.unpack_pack true s.p)

end Sys2Proof.Machine
end
